-- ==== Sys2Proof/Word.lean ====
section
/-! DEFINITION. The byte and the plain vocabulary of the block: the two address spaces, directions, buttons, banks, interrupt sources, attribute fields, the register records of the spec's `CSR` and the operation words of the three agents. -/

namespace Sys2Proof

/-- The width of every register and every access (00_scope R5: "one byte each"). -/
abbrev Byte := BitVec 8

/-- The two address spaces (20_memory R60). -/
inductive Space where
  | io   -- the peripheral register page
  | oam  -- the sprite attribute table
deriving DecidableEq, Repr, Inhabited

/-- The direction of a bus operation (30_encoding R91). -/
inductive Dir where
  | read
  | write
deriving DecidableEq, Repr, Inhabited

/-- The two values of the joypad selector (10_state R23). -/
inductive Bank where
  | direction
  | buttons
deriving DecidableEq, Repr, Inhabited

/-- The eight buttons (10_state R24). -/
inductive Button where
  | right | left | up | down | a | b | select | start
deriving DecidableEq, Repr, Inhabited

/-- The five interrupt sources (60_exceptions R258). -/
inductive IrqSource where
  | vblank | lcdstat | timer | serial | joypad
deriving DecidableEq, Repr, Inhabited

/-- The four fields an attribute table offset selects (20_memory R62). -/
inductive SpriteField where
  | y | x | tile | attr
deriving DecidableEq, Repr, Inhabited

/-- Five interrupt flags, one per source: `CSR.ie` or `CSR.if_` (10_state R21, R22). -/
structure IrqFlags where
  vblank  : Bool
  lcdstat : Bool
  timer   : Bool
  serial  : Bool
  joypad  : Bool
deriving DecidableEq, Repr, Inhabited

/-- The eight button flags `CSR.btn` (10_state R24). -/
structure Buttons where
  right  : Bool
  left   : Bool
  up     : Bool
  down   : Bool
  a      : Bool
  b      : Bool
  select : Bool
  start  : Bool
deriving DecidableEq, Repr, Inhabited

/-- The eight LCD-control flags `CSR.lcdc`, named by their bit position: the spec gives them no other name (10_state R25). -/
structure LcdFlags where
  f0 : Bool
  f1 : Bool
  f2 : Bool
  f3 : Bool
  f4 : Bool
  f5 : Bool
  f6 : Bool
  f7 : Bool
deriving DecidableEq, Repr, Inhabited

/-- A color code: 2 bits, "0=lightest … 3=darkest" (10_state R29). -/
abbrev Color := BitVec 2

/-- A palette of four color codes: `CSR.bgp`, `CSR.obp0`, `CSR.obp1` (10_state R29). -/
structure Palette where
  e0 : Color
  e1 : Color
  e2 : Color
  e3 : Color
deriving DecidableEq, Repr, Inhabited

/-- One entry of the sprite attribute table: 28 bits of state, the low nibble of the attribute byte is none of it (10_state R31). -/
structure SpriteEntry where
  y        : Byte
  x        : Byte
  tile     : Byte
  priority : Bool
  flipY    : Bool
  flipX    : Bool
  palette  : BitVec 1
deriving DecidableEq, Repr, Inhabited

/-- The three operation-word formats, one per agent that takes steps (30_encoding R90). -/
inductive Format where
  | b  -- BUS
  | j  -- INPUT
  | l  -- RASTER
deriving DecidableEq, Repr, Inhabited

/-- One operation word as its agent presents it: the agent determines the format, each of fixed length (30_encoding R90 to R93). -/
inductive OpWord where
  | bus    (w : BitVec 18)
  | input  (w : BitVec 4)
  | raster (w : BitVec 8)
deriving DecidableEq, Repr, Inhabited

end Sys2Proof
end

