-- ==== Sys2Proof/Machine/Operands.lean ====
section
/-! DEFINITION. Every operand form of the operation words: the sub-fields of an offset and of a data byte (30_encoding R94), the operand ranges (R99), and the numbering of buttons, fields and word bits. -/

namespace Sys2Proof

/-! ## Operand ranges -/

/-- The sound stub range, 0x10 to 0x26 inclusive (00_scope R5). -/
def inSoundRange (off : Byte) : Bool := decide (0x10 ≤ off.toNat ∧ off.toNat ≤ 0x26)

/-- The set U of unimplemented IO offsets: 0x01 to 0x0E, 0x27 to 0x3F, 0x4C to 0x4F, 0x51 to 0xFE (44_register_file_dispatch R229). -/
def inUnimplemented (off : Byte) : Bool :=
  decide ((0x01 ≤ off.toNat ∧ off.toNat ≤ 0x0E) ∨ (0x27 ≤ off.toNat ∧ off.toNat ≤ 0x3F) ∨
    (0x4C ≤ off.toNat ∧ off.toNat ≤ 0x4F) ∨ (0x51 ≤ off.toNat ∧ off.toNat ≤ 0xFE))

/-- A legal entry index, 0 to 39 (30_encoding R94 (a)). -/
def isEntry (n : BitVec 6) : Bool := decide (n.toNat < 40)

/-- An attribute table offset that addresses nothing, 0xA0 to 0xFF (20_memory R60). -/
def outOfTable (off : Byte) : Bool := decide (0xA0 ≤ off.toNat)

/-! ## The attribute table offset (30_encoding R94 (a), 20_memory R62) -/

/-- `entry = off[7:2]`. -/
def oamEntry (off : Byte) : BitVec 6 := off.extractLsb' 2 6

/-- `field = off[1:0]`: 0 Y, 1 X, 2 tile, 3 attribute. -/
def oamField (off : Byte) : SpriteField :=
  match off.getLsbD 1, off.getLsbD 0 with
  | false, false => .y
  | false, true  => .x
  | true,  false => .tile
  | true,  true  => .attr

/-- `off[1:0]` of a field. -/
def SpriteField.bits : SpriteField → BitVec 2
  | .y    => 0
  | .x    => 1
  | .tile => 2
  | .attr => 3

/-- `off = n << 2 | field` (43 R200). -/
def oamOffset (n : BitVec 6) (f : SpriteField) : Byte := n ++ f.bits

/-! ## Data bytes -/

/-- P1 write, bit 5: button-select (30_encoding R94 (c), 41 R140). -/
def buttonSelect (v : Byte) : Bool := v.getLsbD 5

/-- P1 write, bit 4: direction-select (30_encoding R94 (c), 41 R140). -/
def directionSelect (v : Byte) : Bool := v.getLsbD 4

/-- Boot control: "the whole byte is tested for zero" (30_encoding R94 (g)). -/
def disablesBoot (v : Byte) : Bool := decide (v ≠ 0)

/-! ## Numberings -/

/-- The index of a button: `j[1:0]` is the bit position in P1, `j[2]` the bank (10_state R24). -/
def Button.index : Button → BitVec 3
  | .right  => 0
  | .left   => 1
  | .up     => 2
  | .down   => 3
  | .a      => 4
  | .b      => 5
  | .select => 6
  | .start  => 7

/-- The button of index `j` (10_state R24, 30_encoding R92). -/
def buttonOf (j : BitVec 3) : Button :=
  match j.toNat with
  | 0 => .right
  | 1 => .left
  | 2 => .up
  | 3 => .down
  | 4 => .a
  | 5 => .b
  | 6 => .select
  | _ => .start

/-- The bit position of an interrupt source in IF and IE (60 R258). -/
def IrqSource.bit : IrqSource → Nat
  | .vblank  => 0
  | .lcdstat => 1
  | .timer   => 2
  | .serial  => 3
  | .joypad  => 4

/-- Direction as 0 and Buttons as 1, where a number is needed (10_state R23). -/
def Bank.index : Bank → Nat
  | .direction => 0
  | .buttons   => 1

/-- Bit 17 of a format B word (30_encoding R91). -/
def Space.bit : Space → BitVec 1
  | .io  => 0
  | .oam => 1

/-- Bit 16 of a format B word (30_encoding R91). -/
def Dir.bit : Dir → BitVec 1
  | .read  => 0
  | .write => 1

end Sys2Proof
end

