-- ==== Sys2Proof/Syntax.lean ====
section
/-! DEFINITION. The operations of the block: one constructor per mnemonic of spec/opcode_table.json (00_scope R10; the rows of one mnemonic are the aligned blocks of one range of offsets, 30_encoding R95). -/

namespace Sys2Proof

/-- The 48 operations, in the table's order. `v` is the data byte (for `btnSet` the new flag), `off` the offset where the operation has a range of them, `n` the entry index `off[7:2]`. -/
inductive Instr where
  /-- `RD.P1` (R141). -/
  | rdP1
  /-- `WR.P1` (R142). -/
  | wrP1 (v : Byte)
  /-- `RD.IF` (R121). -/
  | rdIf
  /-- `WR.IF` (R122). -/
  | wrIf (v : Byte)
  /-- `RD.LCDC` (R161). -/
  | rdLcdc
  /-- `WR.LCDC` (R162). -/
  | wrLcdc (v : Byte)
  /-- `RD.PPU41` (R184). -/
  | rdPpu41
  /-- `WR.PPU41` (R185). -/
  | wrPpu41 (v : Byte)
  /-- `RD.SCY` (R163). -/
  | rdScy
  /-- `WR.SCY` (R164). -/
  | wrScy (v : Byte)
  /-- `RD.SCX` (R165). -/
  | rdScx
  /-- `WR.SCX` (R166). -/
  | wrScx (v : Byte)
  /-- `RD.LY` (R167). -/
  | rdLy
  /-- `WR.LY` (R168). -/
  | wrLy (v : Byte)
  /-- `RD.LYC` (R170). -/
  | rdLyc
  /-- `WR.LYC` (R171). -/
  | wrLyc (v : Byte)
  /-- `RD.PPU46` (R186). -/
  | rdPpu46
  /-- `WR.PPU46` (R187). -/
  | wrPpu46 (v : Byte)
  /-- `RD.BGP` (R172). -/
  | rdBgp
  /-- `WR.BGP` (R173). -/
  | wrBgp (v : Byte)
  /-- `RD.OBP0` (R174). -/
  | rdObp0
  /-- `WR.OBP0` (R175). -/
  | wrObp0 (v : Byte)
  /-- `RD.OBP1` (R176). -/
  | rdObp1
  /-- `WR.OBP1` (R177). -/
  | wrObp1 (v : Byte)
  /-- `RD.WY` (R178). -/
  | rdWy
  /-- `WR.WY` (R179). -/
  | wrWy (v : Byte)
  /-- `RD.WX` (R180). -/
  | rdWx
  /-- `WR.WX` (R181). -/
  | wrWx (v : Byte)
  /-- `RD.BOOT` (R225). -/
  | rdBoot
  /-- `WR.BOOT` (R224). -/
  | wrBoot (v : Byte)
  /-- `RD.IE` (R123). -/
  | rdIe
  /-- `WR.IE` (R124). -/
  | wrIe (v : Byte)
  /-- `RD.SOUND` (R223). -/
  | rdSound (off : Byte)
  /-- `WR.SOUND` (R222). -/
  | wrSound (off v : Byte)
  /-- `RD.UNIMPL` (R227). -/
  | rdUnimpl (off : Byte)
  /-- `WR.UNIMPL` (R228). -/
  | wrUnimpl (off v : Byte)
  /-- `OAM.RD.Y` (R201). -/
  | oamRdY (n : BitVec 6)
  /-- `OAM.WR.Y` (R202). -/
  | oamWrY (n : BitVec 6) (v : Byte)
  /-- `OAM.RD.X` (R203). -/
  | oamRdX (n : BitVec 6)
  /-- `OAM.WR.X` (R204). -/
  | oamWrX (n : BitVec 6) (v : Byte)
  /-- `OAM.RD.TILE` (R205). -/
  | oamRdTile (n : BitVec 6)
  /-- `OAM.WR.TILE` (R206). -/
  | oamWrTile (n : BitVec 6) (v : Byte)
  /-- `OAM.RD.ATTR` (R207). -/
  | oamRdAttr (n : BitVec 6)
  /-- `OAM.WR.ATTR` (R208). -/
  | oamWrAttr (n : BitVec 6) (v : Byte)
  /-- `OAM.RD.OOR` (R210). -/
  | oamRdOor (off : Byte)
  /-- `OAM.WR.OOR` (R211). -/
  | oamWrOor (off v : Byte)
  /-- `BTN.SET` (R143). -/
  | btnSet (j : Button) (v : Bool)
  /-- `LY.SET` (R169). -/
  | lySet (v : Byte)
deriving DecidableEq, Repr

end Sys2Proof
end

