-- ==== Sys2Proof/WellFormed.lean ====
section
/-! DEFINITION. Which operations are well formed: the operand ranges of 30_encoding R99. Every other operand admits every value of its type. -/

namespace Sys2Proof

/-- An operation the assembler does not refuse (30_encoding R99): its operands are in the stated ranges. -/
def Instr.wellFormed : Instr → Bool
  | .rdP1 => true
  | .wrP1 _ => true
  | .rdIf => true
  | .wrIf _ => true
  | .rdLcdc => true
  | .wrLcdc _ => true
  | .rdPpu41 => true
  | .wrPpu41 _ => true
  | .rdScy => true
  | .wrScy _ => true
  | .rdScx => true
  | .wrScx _ => true
  | .rdLy => true
  | .wrLy _ => true
  | .rdLyc => true
  | .wrLyc _ => true
  | .rdPpu46 => true
  | .wrPpu46 _ => true
  | .rdBgp => true
  | .wrBgp _ => true
  | .rdObp0 => true
  | .wrObp0 _ => true
  | .rdObp1 => true
  | .wrObp1 _ => true
  | .rdWy => true
  | .wrWy _ => true
  | .rdWx => true
  | .wrWx _ => true
  | .rdBoot => true
  | .wrBoot _ => true
  | .rdIe => true
  | .wrIe _ => true
  | .rdSound off => inSoundRange off
  | .wrSound off _ => inSoundRange off
  | .rdUnimpl off => inUnimplemented off
  | .wrUnimpl off _ => inUnimplemented off
  | .oamRdY n => isEntry n
  | .oamWrY n _ => isEntry n
  | .oamRdX n => isEntry n
  | .oamWrX n _ => isEntry n
  | .oamRdTile n => isEntry n
  | .oamWrTile n _ => isEntry n
  | .oamRdAttr n => isEntry n
  | .oamWrAttr n _ => isEntry n
  | .oamRdOor off => outOfTable off
  | .oamWrOor off _ => outOfTable off
  | .btnSet _ _ => true
  | .lySet _ => true

end Sys2Proof
end

