-- ==== Sys2Proof/Decode.lean ====
section
/-! DEFINITION. The decoder of the three operation-word formats (30_encoding R90 to R98, 44 R220, R231), then the encoder, and the host's reading of a word as opcode_table.json numbers it. -/

namespace Sys2Proof

/-! ## Fields of a format B word (30_encoding R91, R94) -/

/-- Bit 17: 0 = IO, 1 = OAM. -/
def busSpace (w : BitVec 18) : Space := if w.getLsbD 17 then .oam else .io

/-- Bit 16: 0 = read, 1 = write. -/
def busDir (w : BitVec 18) : Dir := if w.getLsbD 16 then .write else .read

/-- Bits 15:8, the offset within the space. -/
def busOff (w : BitVec 18) : Byte := w.extractLsb' 8 8

/-- Bits 7:0, the byte to write; ignored on a read. -/
def busData (w : BitVec 18) : Byte := w.extractLsb' 0 8

/-! ## The four accesses by offset: the map of 30_encoding R96, and the pseudo-operations of R100 -/

/-- `IORD off`: the IO read at `off` (R96, R100; the dispatch of 44 R220 with the PPU window of R231). -/
def iord (off : Byte) : Instr :=
  match off.toNat with
  | 0x00 => .rdP1
  | 0x0F => .rdIf
  | 0x40 => .rdLcdc
  | 0x41 => .rdPpu41
  | 0x42 => .rdScy
  | 0x43 => .rdScx
  | 0x44 => .rdLy
  | 0x45 => .rdLyc
  | 0x46 => .rdPpu46
  | 0x47 => .rdBgp
  | 0x48 => .rdObp0
  | 0x49 => .rdObp1
  | 0x4A => .rdWy
  | 0x4B => .rdWx
  | 0x50 => .rdBoot
  | 0xFF => .rdIe
  | _ => if inSoundRange off then .rdSound off else .rdUnimpl off

/-- `IOWR off, v`: the IO write at `off` (R96, R100; 44 R220, R231). -/
def iowr (off v : Byte) : Instr :=
  match off.toNat with
  | 0x00 => .wrP1 v
  | 0x0F => .wrIf v
  | 0x40 => .wrLcdc v
  | 0x41 => .wrPpu41 v
  | 0x42 => .wrScy v
  | 0x43 => .wrScx v
  | 0x44 => .wrLy v
  | 0x45 => .wrLyc v
  | 0x46 => .wrPpu46 v
  | 0x47 => .wrBgp v
  | 0x48 => .wrObp0 v
  | 0x49 => .wrObp1 v
  | 0x4A => .wrWy v
  | 0x4B => .wrWx v
  | 0x50 => .wrBoot v
  | 0xFF => .wrIe v
  | _ => if inSoundRange off then .wrSound off v else .wrUnimpl off v

/-- `OAMRD off`: the attribute table read at `off` (R96, R100). -/
def oamrd (off : Byte) : Instr :=
  if isEntry (oamEntry off) then
    match oamField off with
    | .y    => .oamRdY (oamEntry off)
    | .x    => .oamRdX (oamEntry off)
    | .tile => .oamRdTile (oamEntry off)
    | .attr => .oamRdAttr (oamEntry off)
  else .oamRdOor off

/-- `OAMWR off, v`: the attribute table write at `off` (R96, R100). -/
def oamwr (off v : Byte) : Instr :=
  if isEntry (oamEntry off) then
    match oamField off with
    | .y    => .oamWrY (oamEntry off) v
    | .x    => .oamWrX (oamEntry off) v
    | .tile => .oamWrTile (oamEntry off) v
    | .attr => .oamWrAttr (oamEntry off) v
  else .oamWrOor off v

/-! ## Decoding -/

/-- A format B word (30_encoding R91, R95): it looks only at `space`, `dir` and `off`. -/
def decodeBus (w : BitVec 18) : Instr :=
  match busSpace w, busDir w with
  | .io,  .read  => iord (busOff w)
  | .io,  .write => iowr (busOff w) (busData w)
  | .oam, .read  => oamrd (busOff w)
  | .oam, .write => oamwr (busOff w) (busData w)

/-- The decoder: total on every word of every format (30_encoding R90 to R95). -/
def decode : OpWord → Instr
  | .bus w    => decodeBus w
  | .input w  => .btnSet (buttonOf (w.extractLsb' 1 3)) (w.getLsbD 0)
  | .raster w => .lySet w

/-- The bits of a format (30_encoding R90). -/
def Format.bits : Format → Nat
  | .b => 18
  | .j => 4
  | .l => 8

/-- Why a number is no operation word: the one way, since every word of a format decodes (30_encoding R95). -/
inductive DecodeError where
  /-- The number needs more bits than its format has. -/
  | wordTooWide (f : Format)
deriving DecidableEq, Repr

/-- A number as a word of a format, refused by name where it is wider. -/
def OpWord.ofNat (f : Format) (w : Nat) : Except DecodeError OpWord :=
  if w < 2 ^ f.bits then
    match f with
    | .b => .ok (.bus (BitVec.ofNat 18 w))
    | .j => .ok (.input (BitVec.ofNat 4 w))
    | .l => .ok (.raster (BitVec.ofNat 8 w))
  else .error (.wordTooWide f)

/-- The decoder on any number, for a named format. -/
def decodeNat (f : Format) (w : Nat) : Except DecodeError Instr :=
  (OpWord.ofNat f w).map decode

/-! ## Encoding -/

/-- `{space, dir, off, data}` (30_encoding R91). -/
def busWord (sp : Space) (d : Dir) (off data : Byte) : BitVec 18 := sp.bit ++ d.bit ++ off ++ data

/-- An IO read word, its data in the canonical spelling 0x00 (30_encoding R98). -/
def ioReadWord (off : Byte) : OpWord := .bus (busWord .io .read off 0)

/-- An IO write word. -/
def ioWriteWord (off v : Byte) : OpWord := .bus (busWord .io .write off v)

/-- An attribute table read word, its data in the canonical spelling 0x00 (30_encoding R98). -/
def oamReadWord (off : Byte) : OpWord := .bus (busWord .oam .read off 0)

/-- An attribute table write word. -/
def oamWriteWord (off v : Byte) : OpWord := .bus (busWord .oam .write off v)

/-- The word of an operation (30_encoding R91 to R93, R96). -/
def encode : Instr → OpWord
  | .rdP1 => ioReadWord 0x00
  | .wrP1 v => ioWriteWord 0x00 v
  | .rdIf => ioReadWord 0x0F
  | .wrIf v => ioWriteWord 0x0F v
  | .rdLcdc => ioReadWord 0x40
  | .wrLcdc v => ioWriteWord 0x40 v
  | .rdPpu41 => ioReadWord 0x41
  | .wrPpu41 v => ioWriteWord 0x41 v
  | .rdScy => ioReadWord 0x42
  | .wrScy v => ioWriteWord 0x42 v
  | .rdScx => ioReadWord 0x43
  | .wrScx v => ioWriteWord 0x43 v
  | .rdLy => ioReadWord 0x44
  | .wrLy v => ioWriteWord 0x44 v
  | .rdLyc => ioReadWord 0x45
  | .wrLyc v => ioWriteWord 0x45 v
  | .rdPpu46 => ioReadWord 0x46
  | .wrPpu46 v => ioWriteWord 0x46 v
  | .rdBgp => ioReadWord 0x47
  | .wrBgp v => ioWriteWord 0x47 v
  | .rdObp0 => ioReadWord 0x48
  | .wrObp0 v => ioWriteWord 0x48 v
  | .rdObp1 => ioReadWord 0x49
  | .wrObp1 v => ioWriteWord 0x49 v
  | .rdWy => ioReadWord 0x4A
  | .wrWy v => ioWriteWord 0x4A v
  | .rdWx => ioReadWord 0x4B
  | .wrWx v => ioWriteWord 0x4B v
  | .rdBoot => ioReadWord 0x50
  | .wrBoot v => ioWriteWord 0x50 v
  | .rdIe => ioReadWord 0xFF
  | .wrIe v => ioWriteWord 0xFF v
  | .rdSound off => ioReadWord off
  | .wrSound off v => ioWriteWord off v
  | .rdUnimpl off => ioReadWord off
  | .wrUnimpl off v => ioWriteWord off v
  | .oamRdY n => oamReadWord (oamOffset n .y)
  | .oamWrY n v => oamWriteWord (oamOffset n .y) v
  | .oamRdX n => oamReadWord (oamOffset n .x)
  | .oamWrX n v => oamWriteWord (oamOffset n .x) v
  | .oamRdTile n => oamReadWord (oamOffset n .tile)
  | .oamWrTile n v => oamWriteWord (oamOffset n .tile) v
  | .oamRdAttr n => oamReadWord (oamOffset n .attr)
  | .oamWrAttr n v => oamWriteWord (oamOffset n .attr) v
  | .oamRdOor off => oamReadWord off
  | .oamWrOor off v => oamWriteWord off v
  | .btnSet j v => .input (j.index ++ BitVec.ofBool v)
  | .lySet v => .raster v

/-! ## The format of a word and of an operation -/

/-- The format a presented word has (30_encoding R90). -/
def OpWord.format : OpWord → Format
  | .bus _    => .b
  | .input _  => .j
  | .raster _ => .l

/-! ## The host's question: a word numbered as spec/opcode_table.json numbers it -/

/-- The format of a table row's word. The table's widths are 18, 4 and 8 bits (30_encoding R90); in whole bytes J and L are both 8 bits, and the agent, which alone tells them apart (R90), is not part of the question.
DESIGN CHOICE (log entry 7), safe: of 8 bits, a number with its upper four bits zero is read as the J word in a byte, any other as the L word. The machine itself never uses this: its words name their agent. -/
def tableFormat (nbits w : Nat) : Format :=
  if nbits < 8 then .j
  else if nbits = 8 then (if w < 16 then .j else .l)
  else .b

/-- The instruction this decoder reads from a word of spec/opcode_table.json (bit 0 the least significant); none where it refuses. -/
def decodeTableWord (nbits w : Nat) : Option Instr :=
  match decodeNat (tableFormat nbits w) w with
  | .ok i    => some i
  | .error _ => none

end Sys2Proof
end

