-- ==== Sys2Proof/Config.lean ====
section
/-! DEFINITION. The parameters the spec leaves open (00_scope R6): the reset parameters, an argument of `State.resetWith`, and three constants that no rule of the block reads. -/

namespace Sys2Proof

/-- `PPU_RESET`: ten bytes (00_scope R6, decision D15). -/
structure PpuReset where
  lcdc : Byte
  scy  : Byte
  scx  : Byte
  ly   : Byte
  lyc  : Byte
  bgp  : Byte
  obp0 : Byte
  obp1 : Byte
  wy   : Byte
  wx   : Byte
deriving DecidableEq, Repr

/-- The open reset parameters (00_scope R6, 70_reset_and_hazards R301; decisions D13, D14, D15). -/
structure ResetParams where
  /-- `P1_BANK_RESET`. -/
  p1Bank  : Bank
  /-- `BUTTONS_RESET`. -/
  buttons : Buttons
  /-- `PPU_RESET`. -/
  ppu     : PpuReset
  /-- `OAM_RESET`. -/
  oam     : Vector SpriteEntry 40
deriving DecidableEq, Repr

/-- What a true button flag means physically: `BUTTON_TRUE_MEANS` (10_state R24, decision D18). -/
inductive ButtonMeaning where
  | pressed
  | released
deriving DecidableEq, Repr, Inhabited

namespace Config

/-- The spec's simulator default, "every open parameter as zero (Direction for the bank)" (70 R301).
DESIGN CHOICE (log entry 1), unsafe: a statement proved from it holds of no other chip; the obligations quantify over every `ResetParams`. -/
def simulatorDefault : ResetParams where
  p1Bank  := .direction
  buttons := ⟨false, false, false, false, false, false, false, false⟩
  ppu     := ⟨0, 0, 0, 0, 0, 0, 0, 0, 0, 0⟩
  oam     := Vector.replicate 40 ⟨0, 0, 0, false, false, false, 0⟩

/-- `IO_PAGE_BASE`: the absolute address of offset 0 of the I/O page on the owning bus (20_memory R63, decision D21); open, no rule of the block reads it. -/
opaque ioPageBase : BitVec 16

/-- `OAM_BASE`: the absolute address of offset 0 of the attribute table on the owning bus (20_memory R63, decision D21); open, no rule of the block reads it. -/
opaque oamBase : BitVec 16

/-- `BUTTON_TRUE_MEANS` (10_state R24, decision D18); open, no rule of the block reads it. -/
opaque buttonTrueMeans : ButtonMeaning

end Config

end Sys2Proof
end

