-- ==== Sys2Proof/Machine/Flags.lean ====
section
/-! DEFINITION. The packing of flags and fields into the byte a register shows, and back: interrupt flags (40 R120), the joypad nibble (41 R141), LCD flags (42 R161, R162), palettes (42 R182) and the attribute byte (43 R209). -/

namespace Sys2Proof

/-- The flag of a source. -/
def IrqFlags.flag (f : IrqFlags) : IrqSource → Bool
  | .vblank  => f.vblank
  | .lcdstat => f.lcdstat
  | .timer   => f.timer
  | .serial  => f.serial
  | .joypad  => f.joypad

/-- `CSR.btn[j]`, read (10_state R24). -/
def Buttons.get (b : Buttons) : Button → Bool
  | .right  => b.right
  | .left   => b.left
  | .up     => b.up
  | .down   => b.down
  | .a      => b.a
  | .b      => b.b
  | .select => b.select
  | .start  => b.start

/-- `CSR.btn[j] <- v`: the other seven flags are unchanged (41 R143). -/
def Buttons.set (b : Buttons) (j : Button) (v : Bool) : Buttons :=
  match j with
  | .right  => { b with right := v }
  | .left   => { b with left := v }
  | .up     => { b with up := v }
  | .down   => { b with down := v }
  | .a      => { b with a := v }
  | .b      => { b with b := v }
  | .select => { b with select := v }
  | .start  => { b with start := v }

namespace Machine

/-- `b ? m : 0` (00_scope R7). -/
def maskIf (b : Bool) (m : Byte) : Byte := if b then m else 0

/-! ## Interrupt flags -/

/-- `pack5`: the OR-sum of `flag ? mask : 0` over the five flags (40 R120). -/
def pack5 (f : IrqFlags) : Byte :=
  maskIf f.vblank 0x01 ||| maskIf f.lcdstat 0x02 ||| maskIf f.timer 0x04 ||| maskIf f.serial 0x08 ||| maskIf f.joypad 0x10

/-- `unpack5`: bits 4 to 0 as the five flags; bits 7, 6 and 5 are not looked at (40 R120). -/
def unpack5 (v : Byte) : IrqFlags where
  vblank  := v.getLsbD 0
  lcdstat := v.getLsbD 1
  timer   := v.getLsbD 2
  serial  := v.getLsbD 3
  joypad  := v.getLsbD 4

/-! ## The joypad nibble -/

/-- The selected bank's four flags on bits 0 to 3, bits 7 to 4 zero; the other bank's flags do not appear (41 R140, R141). -/
def packJoypad (bank : Bank) (b : Buttons) : Byte :=
  match bank with
  | .direction => maskIf b.right 0x01 ||| maskIf b.left 0x02 ||| maskIf b.up 0x04 ||| maskIf b.down 0x08
  | .buttons   => maskIf b.a 0x01 ||| maskIf b.b 0x02 ||| maskIf b.select 0x04 ||| maskIf b.start 0x08

/-- The bank after a write of `v` to P1: button-select wins, else direction-select, else no change (41 R142). -/
def selectBank (v : Byte) (bank : Bank) : Bank :=
  if buttonSelect v then .buttons
  else if directionSelect v then .direction
  else bank

/-! ## LCD-control flags -/

/-- The OR over i of `lcdc[i] ? (1 << i) : 0` (42 R161). -/
def packLcdc (f : LcdFlags) : Byte :=
  maskIf f.f0 0x01 ||| maskIf f.f1 0x02 ||| maskIf f.f2 0x04 ||| maskIf f.f3 0x08 |||
    maskIf f.f4 0x10 ||| maskIf f.f5 0x20 ||| maskIf f.f6 0x40 ||| maskIf f.f7 0x80

/-- `lcdc[i] <- (v[i] == 1)` for i = 0 to 7 (42 R162). -/
def unpackLcdc (v : Byte) : LcdFlags where
  f0 := v.getLsbD 0
  f1 := v.getLsbD 1
  f2 := v.getLsbD 2
  f3 := v.getLsbD 3
  f4 := v.getLsbD 4
  f5 := v.getLsbD 5
  f6 := v.getLsbD 6
  f7 := v.getLsbD 7

/-! ## Palettes -/

/-- `pack_pal(p) = p[0] | (p[1] << 2) | (p[2] << 4) | (p[3] << 6)` (42 R182). -/
def packPal (p : Palette) : Byte :=
  p.e0.setWidth 8 ||| (p.e1.setWidth 8 <<< 2) ||| (p.e2.setWidth 8 <<< 4) ||| (p.e3.setWidth 8 <<< 6)

/-- `unpack_pal(v)`: entry e is `v[2e+1 : 2e]` (42 R182). -/
def unpackPal (v : Byte) : Palette where
  e0 := v.extractLsb' 0 2
  e1 := v.extractLsb' 2 2
  e2 := v.extractLsb' 4 2
  e3 := v.extractLsb' 6 2

/-! ## The attribute byte -/

/-- `pack_attr`: bit 7 priority, bit 6 flip-Y, bit 5 flip-X, bit 4 palette select, bits 3 to 0 zero (43 R209). -/
def packAttr (e : SpriteEntry) : Byte :=
  maskIf e.priority 0x80 ||| maskIf e.flipY 0x40 ||| maskIf e.flipX 0x20 ||| (e.palette.setWidth 8 <<< 4)

/-- `unpack_attr` into an entry: the four attribute fields from bits 7 to 4, the other fields kept; the low nibble is dropped, and the palette selector is bit 4, not bit 7 (43 R208, R209). -/
def unpackAttr (v : Byte) (e : SpriteEntry) : SpriteEntry :=
  { e with
    priority := v.getLsbD 7
    flipY := v.getLsbD 6
    flipX := v.getLsbD 5
    palette := v.extractLsb' 4 1 }

/-- The byte one field of an entry shows (43 R200, the read arms). -/
def readField (f : SpriteField) (e : SpriteEntry) : Byte :=
  match f with
  | .y    => e.y
  | .x    => e.x
  | .tile => e.tile
  | .attr => packAttr e

/-- An entry with one field written from a byte (43 R200, the write arms). -/
def writeField (f : SpriteField) (v : Byte) (e : SpriteEntry) : SpriteEntry :=
  match f with
  | .y    => { e with y := v }
  | .x    => { e with x := v }
  | .tile => { e with tile := v }
  | .attr => unpackAttr v e

end Machine

end Sys2Proof
end

