-- ==== Sys2Proof/Machine/State.lean ====
section
/-! DEFINITION. The state of the block as plain data: the spec's record `CSR` (10_state R20) with the fault latch, the operation words the agents have presented, and the byte the last operation returned; and the state after power-on reset (70 R300, R301). -/

namespace Sys2Proof.Machine

/-- The six kinds of fault (60_exceptions R250). -/
inductive FaultKind where
  /-- Code 1: an IO offset no sub-block owns (60 R251). -/
  | unimplementedIO
  /-- Code 2: IO offset 0x41 or 0x46, inside the PPU window (60 R252). -/
  | unimplementedPpuRegister
  /-- Code 3: a write to the line counter (60 R253). -/
  | readOnlyWrite
  /-- Code 4: a read of the sound range or of the boot control (60 R254). -/
  | writeOnlyRead
  /-- Code 5: an attribute table offset of 0xA0 or more (60 R255). -/
  | oamOffsetOutOfRange
  /-- Code 6: unreachable, since a color code is a 2-bit field (60 R256); no operation raises it. -/
  | invalidPackedValue
deriving DecidableEq, Repr

/-- The fault record (60 R250): `value` is the write data, absent on a read. -/
structure FaultRecord where
  kind  : FaultKind
  space : Space
  off   : Byte
  dir   : Dir
  value : Option Byte
deriving DecidableEq, Repr

/-- The record `CSR`: "The whole state of the block" (10_state R20). -/
structure Csr where
  /-- Interrupt enables, IO 0xFF (R21). -/
  ie    : IrqFlags
  /-- Interrupt pending flags, IO 0x0F (R22). -/
  if_   : IrqFlags
  /-- The joypad bank selector, IO 0x00 bits 5 and 4 on a write (R23). -/
  bank  : Bank
  /-- The button flags, IO 0x00 four at a time on a read (R24). -/
  btn   : Buttons
  /-- The LCD-control flags, IO 0x40 (R25). -/
  lcdc  : LcdFlags
  /-- Scroll Y, IO 0x42 (R26). -/
  scy   : Byte
  /-- Scroll X, IO 0x43 (R26). -/
  scx   : Byte
  /-- The line counter, IO 0x44, read-only from the bus (R27). -/
  ly    : Byte
  /-- The line-compare value, IO 0x45 (R28). -/
  lyc   : Byte
  /-- The background palette, IO 0x47 (R29). -/
  bgp   : Palette
  /-- Object palette 0, IO 0x48 (R29). -/
  obp0  : Palette
  /-- Object palette 1, IO 0x49 (R29). -/
  obp1  : Palette
  /-- Window Y, IO 0x4A (R30). -/
  wy    : Byte
  /-- Window X, IO 0x4B (R30). -/
  wx    : Byte
  /-- The sprite attribute table, OAM 0x00 to 0x9F (R31). -/
  oam   : Vector SpriteEntry 40
  /-- The boot-overlay flag, written at IO 0x50 (R32). -/
  boot  : Bool
  /-- The fault latch (R34). -/
  fault : Option FaultRecord
deriving DecidableEq, Repr

/-- The machine's state: the block and its two edges. -/
structure State where
  /-- The block (10_state R20). -/
  csr     : Csr
  /-- The model's own field, not the spec's: the operation words the agents have presented, oldest first, in the one total order of 20_memory R68. DESIGN CHOICE (log entry 2), safe: claims hold for every list, so for every interleaving. -/
  pending : List OpWord
  /-- The model's own field, not the spec's: the byte the last presented operation returned, none where it returned nothing (30_encoding R91). DESIGN CHOICE (log entry 3), safe: no operation reads it. -/
  rdata   : Option Byte
deriving DecidableEq, Repr

/-- Why a step would stop with a fault of the model. A fault of the BLOCK is no such stop: its entry is described whole by 60 R262, so the operation takes it as a next state with `csr.fault` set (log entry 5). -/
inductive Fault where
  /-- A color code outside 0 to 3 reaching a pack or unpack: "fatal", "must never be silently clamped" (60 R256). Raised by nobody: a color code is a 2-bit field here, which discharges it. Safe (log entry 10). -/
  | invalidPackedValue
deriving DecidableEq, Repr

/-- Why the model would decline an instruction. -/
inductive Refusal where
  /-- An instruction without a meaning yet, rejected by name in `exec`. Raised by no arm: every operation has its meaning. Safe. -/
  | notModelled (mnemonic : String)
deriving DecidableEq, Repr

/-- The block after power-on, for any value of the open parameters (70 R301, 10_state R21 to R34). -/
def Csr.resetWith (p : ResetParams) : Csr where
  ie    := ⟨false, false, false, false, false⟩
  if_   := ⟨false, false, false, false, false⟩
  bank  := p.p1Bank
  btn   := p.buttons
  lcdc  := unpackLcdc p.ppu.lcdc
  scy   := p.ppu.scy
  scx   := p.ppu.scx
  ly    := p.ppu.ly
  lyc   := p.ppu.lyc
  bgp   := unpackPal p.ppu.bgp
  obp0  := unpackPal p.ppu.obp0
  obp1  := unpackPal p.ppu.obp1
  wy    := p.ppu.wy
  wx    := p.ppu.wx
  oam   := p.oam
  boot  := true
  fault := none

/-- The machine after power-on, for any value of the open parameters: nothing presented yet, nothing returned yet (70 R300: reset comes before any other agent's first step). -/
def State.resetWith (p : ResetParams) : State where
  csr     := Csr.resetWith p
  pending := []
  rdata   := none

/-- The machine right after reset, the open parameters at the spec's simulator default (70 R301).
DESIGN CHOICE (log entry 1), unsafe: claims about reset are stated for `State.resetWith p`, every `p`. -/
def State.reset : State := State.resetWith Config.simulatorDefault

end Sys2Proof.Machine
end

