-- ==== Sys2Proof/Machine/Ops.lean ====
section
/-! DEFINITION. The named operations over the state: writing one field, fetching the next presented operation word, performing an operation's effect, taking a fault (60 R262, the block's one exception entry; there is no return, R263), the attribute table access (43 R200), and the outputs of the block. -/

namespace Sys2Proof.Machine

/-! ## Writing one field -/

/-- `CSR.ie <- x`. -/
def Csr.setIe (c : Csr) (x : IrqFlags) : Csr := { c with ie := x }

/-- `CSR.if_ <- x`. -/
def Csr.setIf (c : Csr) (x : IrqFlags) : Csr := { c with if_ := x }

/-- `CSR.bank <- x`. -/
def Csr.setBank (c : Csr) (x : Bank) : Csr := { c with bank := x }

/-- `CSR.btn <- x`. -/
def Csr.setBtn (c : Csr) (x : Buttons) : Csr := { c with btn := x }

/-- `CSR.lcdc <- x`. -/
def Csr.setLcdc (c : Csr) (x : LcdFlags) : Csr := { c with lcdc := x }

/-- `CSR.scy <- x`. -/
def Csr.setScy (c : Csr) (x : Byte) : Csr := { c with scy := x }

/-- `CSR.scx <- x`. -/
def Csr.setScx (c : Csr) (x : Byte) : Csr := { c with scx := x }

/-- `CSR.ly <- x`. -/
def Csr.setLy (c : Csr) (x : Byte) : Csr := { c with ly := x }

/-- `CSR.lyc <- x`. -/
def Csr.setLyc (c : Csr) (x : Byte) : Csr := { c with lyc := x }

/-- `CSR.bgp <- x`. -/
def Csr.setBgp (c : Csr) (x : Palette) : Csr := { c with bgp := x }

/-- `CSR.obp0 <- x`. -/
def Csr.setObp0 (c : Csr) (x : Palette) : Csr := { c with obp0 := x }

/-- `CSR.obp1 <- x`. -/
def Csr.setObp1 (c : Csr) (x : Palette) : Csr := { c with obp1 := x }

/-- `CSR.wy <- x`. -/
def Csr.setWy (c : Csr) (x : Byte) : Csr := { c with wy := x }

/-- `CSR.wx <- x`. -/
def Csr.setWx (c : Csr) (x : Byte) : Csr := { c with wx := x }

/-- `CSR.oam <- x`. -/
def Csr.setOam (c : Csr) (x : Vector SpriteEntry 40) : Csr := { c with oam := x }

/-- `CSR.boot <- x`. -/
def Csr.setBoot (c : Csr) (x : Bool) : Csr := { c with boot := x }

/-- `CSR.fault <- x`. -/
def Csr.setFault (c : Csr) (x : Option FaultRecord) : Csr := { c with fault := x }

/-- The block replaced. -/
def State.setCsr (s : State) (x : Csr) : State := { s with csr := x }

/-- The presented operation words replaced. -/
def State.setPending (s : State) (x : List OpWord) : State := { s with pending := x }

/-- The returned byte replaced. -/
def State.setRdata (s : State) (x : Option Byte) : State := { s with rdata := x }

/-! ## Outputs (they take no step) -/

/-- The output wire `boot_sequence()`: true while the overlay is active; readable after a fault too (44 R226). -/
def State.bootSequence (s : State) : Bool := s.csr.boot

/-- What the bus serves at address 0 (44 R226, 20_memory R70). -/
inductive ServedAtZero where
  | bootCode
  | cartridgeCode
deriving DecidableEq, Repr

/-- "so the bus can decide whether to serve boot code or cartridge code at address 0" (44 R226). -/
def State.servedAtZero (s : State) : ServedAtZero := if s.bootSequence then .bootCode else .cartridgeCode

/-- The number of a fault kind (60 R250). -/
def FaultKind.code : FaultKind → BitVec 3
  | .unimplementedIO          => 1
  | .unimplementedPpuRegister => 2
  | .readOnlyWrite            => 3
  | .writeOnlyRead            => 4
  | .oamOffsetOutOfRange      => 5
  | .invalidPackedValue       => 6

/-- The fault code on a port that reports one; "code 0 means no fault" (60 R250). -/
def State.faultCode (s : State) : BitVec 3 :=
  match s.csr.fault with
  | none   => 0
  | some r => r.kind.code

/-- The run is over: a fault is recorded (60 R262, 00_scope glossary "halted"). -/
def State.halted (s : State) : Bool := s.csr.fault.isSome

/-- Source k is enabled while `CSR.ie[k]` is true (60 R259). -/
def State.enabled (s : State) (k : IrqSource) : Bool := s.csr.ie.flag k

/-- Source k is pending while `CSR.if_[k]` is true (60 R259). Nothing is delivered: no definition of the model reads both (60 R260). -/
def State.irqPending (s : State) (k : IrqSource) : Bool := s.csr.if_.flag k

/-! ## Fetching: the next presented operation -/

/-- The oldest presented word and the state with it taken off; none where no agent presents anything. -/
def State.fetch (s : State) : Option (OpWord × State) :=
  match s.pending with
  | []        => none
  | w :: rest => some (w, s.setPending rest)

/-- A word placed where the next step finds it (log entry 2: a program is presented from outside). -/
def State.present (s : State) (w : OpWord) : State := s.setPending (w :: s.pending)

/-! ## Performing an operation -/

/-- What one operation does (30_encoding R91: "A read returns one byte `rdata` or a fault; a write returns nothing or a fault"). -/
inductive Effect where
  /-- A read that performs: it returns a byte and changes nothing (20_memory R66). -/
  | returns (v : Byte)
  /-- A write or side-port update that performs: it leaves this block and returns nothing. -/
  | writes (c : Csr)
  /-- A fault with this record. -/
  | raises (r : FaultRecord)
deriving DecidableEq, Repr

/-- Fault entry: no field of `CSR` other than `CSR.fault` changes, the latch holds the record, no data is returned (60 R262). -/
def takeFault (r : FaultRecord) (s : State) : State :=
  (s.setCsr (s.csr.setFault (some r))).setRdata none

/-- An operation presented while halted: it changes nothing and returns nothing (60 R262). -/
def notPerformed (s : State) : State := s.setRdata none

/-- The state an effect leaves. -/
def Effect.apply (e : Effect) (s : State) : State :=
  match e with
  | .returns v => s.setRdata (some v)
  | .writes c  => (s.setCsr c).setRdata none
  | .raises r  => takeFault r s

/-- One operation on the block: not performed once the run has halted (44 R220, 60 R262), else its effect, whole and at once (20_memory R67). -/
def perform (e : Effect) (s : State) : Host.Outcome State Fault Refusal :=
  .next (if s.halted then notPerformed s else e.apply s)

/-! ## Faults by where they are raised (60 R250) -/

/-- A fault of an IO read. -/
def ioReadFault (k : FaultKind) (off : Byte) : Effect := .raises ⟨k, .io, off, .read, none⟩

/-- A fault of an IO write of `v`. -/
def ioWriteFault (k : FaultKind) (off v : Byte) : Effect := .raises ⟨k, .io, off, .write, some v⟩

/-- `OamOffsetOutOfRange` on a read (60 R255). -/
def oamReadFault (off : Byte) : Effect := .raises ⟨.oamOffsetOutOfRange, .oam, off, .read, none⟩

/-- `OamOffsetOutOfRange` on a write of `v` (60 R255). -/
def oamWriteFault (off v : Byte) : Effect := .raises ⟨.oamOffsetOutOfRange, .oam, off, .write, some v⟩

/-! ## The attribute table (43 R200) -/

/-- `MemRead(OAM, n << 2 | f, 1)`. -/
def oamRead (n : BitVec 6) (f : SpriteField) (c : Csr) : Effect :=
  if h : n.toNat < 40 then .returns (readField f c.oam[n.toNat])
  else oamReadFault (oamOffset n f)

/-- `MemWrite(OAM, n << 2 | f, 1, v)`. -/
def oamWrite (n : BitVec 6) (f : SpriteField) (v : Byte) (c : Csr) : Effect :=
  if h : n.toNat < 40 then .writes (c.setOam (c.oam.set n.toNat (writeField f v c.oam[n.toNat]) h))
  else oamWriteFault (oamOffset n f) v

end Sys2Proof.Machine
end

