-- ==== Sys2Proof/Machine/Interrupt.lean ====
section
/-! DEFINITION. The Interrupt Controller operations on IF and IE (40_interrupt_controller R121 to R124). -/

namespace Sys2Proof.Machine

/-- `RD.IF`: `rdata <- pack5(CSR.if_)` (R121). -/
def execRdIf (s : State) : Host.Outcome State Fault Refusal := perform (.returns (pack5 s.csr.if_)) s

/-- `WR.IF v`: `CSR.if_ <- unpack5(v)`, an overwrite (R122). -/
def execWrIf (v : Byte) (s : State) : Host.Outcome State Fault Refusal := perform (.writes (s.csr.setIf (unpack5 v))) s

/-- `RD.IE`: `rdata <- pack5(CSR.ie)` (R123). -/
def execRdIe (s : State) : Host.Outcome State Fault Refusal := perform (.returns (pack5 s.csr.ie)) s

/-- `WR.IE v`: `CSR.ie <- unpack5(v)`, an overwrite (R124). -/
def execWrIe (v : Byte) (s : State) : Host.Outcome State Fault Refusal := perform (.writes (s.csr.setIe (unpack5 v))) s

end Sys2Proof.Machine
end

