-- ==== Sys2Proof/Machine/Joypad.lean ====
section
/-! DEFINITION. The Joypad Multiplexer operations on P1 and the button side port (41_joypad R141 to R143). -/

namespace Sys2Proof.Machine

/-- `RD.P1`: the selected bank's four flags (R141). -/
def execRdP1 (s : State) : Host.Outcome State Fault Refusal := perform (.returns (packJoypad s.csr.bank s.csr.btn)) s

/-- `WR.P1 v`: the selector update, never a button-state mutator (R142). -/
def execWrP1 (v : Byte) (s : State) : Host.Outcome State Fault Refusal :=
  perform (.writes (s.csr.setBank (selectBank v s.csr.bank))) s

/-- `BTN.SET j, v`: `CSR.btn[j] <- (v == 1)`, by the INPUT agent (R143). -/
def execBtnSet (j : Button) (v : Bool) (s : State) : Host.Outcome State Fault Refusal :=
  perform (.writes (s.csr.setBtn (s.csr.btn.set j v))) s

end Sys2Proof.Machine
end

