-- ==== Sys2Proof/Machine/Ppu.lean ====
section
/-! DEFINITION. The PPU control register operations, IO 0x40 to 0x4B, and the line-counter side port (42_ppu_registers R161 to R187). -/

namespace Sys2Proof.Machine

/-- `RD.LCDC`: the eight flags, flag i at bit i (R161). -/
def execRdLcdc (s : State) : Host.Outcome State Fault Refusal := perform (.returns (packLcdc s.csr.lcdc)) s

/-- `WR.LCDC v`: all eight flags overwritten (R162). -/
def execWrLcdc (v : Byte) (s : State) : Host.Outcome State Fault Refusal := perform (.writes (s.csr.setLcdc (unpackLcdc v))) s

/-- `RD.PPU41`: always `UnimplementedPpuRegister` (R184). -/
def execRdPpu41 (s : State) : Host.Outcome State Fault Refusal := perform (ioReadFault .unimplementedPpuRegister 0x41) s

/-- `WR.PPU41 v`: always `UnimplementedPpuRegister` (R185). -/
def execWrPpu41 (v : Byte) (s : State) : Host.Outcome State Fault Refusal := perform (ioWriteFault .unimplementedPpuRegister 0x41 v) s

/-- `RD.SCY`: `rdata <- CSR.scy` (R163). -/
def execRdScy (s : State) : Host.Outcome State Fault Refusal := perform (.returns s.csr.scy) s

/-- `WR.SCY v`: `CSR.scy <- v` (R164). -/
def execWrScy (v : Byte) (s : State) : Host.Outcome State Fault Refusal := perform (.writes (s.csr.setScy v)) s

/-- `RD.SCX`: `rdata <- CSR.scx` (R165). -/
def execRdScx (s : State) : Host.Outcome State Fault Refusal := perform (.returns s.csr.scx) s

/-- `WR.SCX v`: `CSR.scx <- v` (R166). -/
def execWrScx (v : Byte) (s : State) : Host.Outcome State Fault Refusal := perform (.writes (s.csr.setScx v)) s

/-- `RD.LY`: `rdata <- CSR.ly` (R167). -/
def execRdLy (s : State) : Host.Outcome State Fault Refusal := perform (.returns s.csr.ly) s

/-- `WR.LY v`: always `ReadOnlyWrite`; `CSR.ly` keeps its value (R168). -/
def execWrLy (v : Byte) (s : State) : Host.Outcome State Fault Refusal := perform (ioWriteFault .readOnlyWrite 0x44 v) s

/-- `LY.SET v`: `CSR.ly <- v`, by the RASTER agent (R169). -/
def execLySet (v : Byte) (s : State) : Host.Outcome State Fault Refusal := perform (.writes (s.csr.setLy v)) s

/-- `RD.LYC`: `rdata <- CSR.lyc` (R170). -/
def execRdLyc (s : State) : Host.Outcome State Fault Refusal := perform (.returns s.csr.lyc) s

/-- `WR.LYC v`: `CSR.lyc <- v` (R171). -/
def execWrLyc (v : Byte) (s : State) : Host.Outcome State Fault Refusal := perform (.writes (s.csr.setLyc v)) s

/-- `RD.PPU46`: always `UnimplementedPpuRegister` (R186). -/
def execRdPpu46 (s : State) : Host.Outcome State Fault Refusal := perform (ioReadFault .unimplementedPpuRegister 0x46) s

/-- `WR.PPU46 v`: always `UnimplementedPpuRegister` (R187). -/
def execWrPpu46 (v : Byte) (s : State) : Host.Outcome State Fault Refusal := perform (ioWriteFault .unimplementedPpuRegister 0x46 v) s

/-- `RD.BGP`: `rdata <- pack_pal(CSR.bgp)` (R172). -/
def execRdBgp (s : State) : Host.Outcome State Fault Refusal := perform (.returns (packPal s.csr.bgp)) s

/-- `WR.BGP v`: `CSR.bgp <- unpack_pal(v)` (R173). -/
def execWrBgp (v : Byte) (s : State) : Host.Outcome State Fault Refusal := perform (.writes (s.csr.setBgp (unpackPal v))) s

/-- `RD.OBP0`: `rdata <- pack_pal(CSR.obp0)` (R174). -/
def execRdObp0 (s : State) : Host.Outcome State Fault Refusal := perform (.returns (packPal s.csr.obp0)) s

/-- `WR.OBP0 v`: `CSR.obp0 <- unpack_pal(v)` (R175). -/
def execWrObp0 (v : Byte) (s : State) : Host.Outcome State Fault Refusal := perform (.writes (s.csr.setObp0 (unpackPal v))) s

/-- `RD.OBP1`: `rdata <- pack_pal(CSR.obp1)` (R176). -/
def execRdObp1 (s : State) : Host.Outcome State Fault Refusal := perform (.returns (packPal s.csr.obp1)) s

/-- `WR.OBP1 v`: `CSR.obp1 <- unpack_pal(v)` (R177). -/
def execWrObp1 (v : Byte) (s : State) : Host.Outcome State Fault Refusal := perform (.writes (s.csr.setObp1 (unpackPal v))) s

/-- `RD.WY`: `rdata <- CSR.wy` (R178). -/
def execRdWy (s : State) : Host.Outcome State Fault Refusal := perform (.returns s.csr.wy) s

/-- `WR.WY v`: `CSR.wy <- v` (R179). -/
def execWrWy (v : Byte) (s : State) : Host.Outcome State Fault Refusal := perform (.writes (s.csr.setWy v)) s

/-- `RD.WX`: `rdata <- CSR.wx` (R180). -/
def execRdWx (s : State) : Host.Outcome State Fault Refusal := perform (.returns s.csr.wx) s

/-- `WR.WX v`: `CSR.wx <- v` (R181). -/
def execWrWx (v : Byte) (s : State) : Host.Outcome State Fault Refusal := perform (.writes (s.csr.setWx v)) s

end Sys2Proof.Machine
end

