-- ==== Sys2Proof/Machine/RegisterFile.lean ====
section
/-! DEFINITION. The operations the Peripheral Register File performs itself: the sound stub, the boot control and the unimplemented offsets (44_register_file_dispatch R222 to R228). -/

namespace Sys2Proof.Machine

/-- `RD.SOUND off`: always `WriteOnlyRead` (R223). -/
def execRdSound (off : Byte) (s : State) : Host.Outcome State Fault Refusal := perform (ioReadFault .writeOnlyRead off) s

/-- `WR.SOUND off, v`: "write accepted and currently discarded"; `CSR` unchanged whatever the operands (R222). -/
def execWrSound (_off _v : Byte) (s : State) : Host.Outcome State Fault Refusal := perform (.writes s.csr) s

/-- `RD.BOOT`: always `WriteOnlyRead` (R225). -/
def execRdBoot (s : State) : Host.Outcome State Fault Refusal := perform (ioReadFault .writeOnlyRead 0x50) s

/-- `WR.BOOT v`: any nonzero byte clears the boot flag, zero changes nothing (R224). -/
def execWrBoot (v : Byte) (s : State) : Host.Outcome State Fault Refusal :=
  perform (.writes (if disablesBoot v then s.csr.setBoot false else s.csr)) s

/-- `RD.UNIMPL off`: always `UnimplementedIO` (R227). -/
def execRdUnimpl (off : Byte) (s : State) : Host.Outcome State Fault Refusal := perform (ioReadFault .unimplementedIO off) s

/-- `WR.UNIMPL off, v`: always `UnimplementedIO`; the byte is stored nowhere (R228). -/
def execWrUnimpl (off v : Byte) (s : State) : Host.Outcome State Fault Refusal := perform (ioWriteFault .unimplementedIO off v) s

end Sys2Proof.Machine
end

