-- ==== Sys2Proof/Machine/SpriteTable.lean ====
section
/-! DEFINITION. The sprite attribute table operations, OAM 0x00 to 0xFF (43_sprite_attribute_table R201 to R211): each is the access primitive of R200 at one field and one direction. -/

namespace Sys2Proof.Machine

/-- `OAM.RD.Y n` (R201). -/
def execOamRdY (n : BitVec 6) (s : State) : Host.Outcome State Fault Refusal := perform (oamRead n .y s.csr) s

/-- `OAM.WR.Y n, v` (R202). -/
def execOamWrY (n : BitVec 6) (v : Byte) (s : State) : Host.Outcome State Fault Refusal := perform (oamWrite n .y v s.csr) s

/-- `OAM.RD.X n` (R203). -/
def execOamRdX (n : BitVec 6) (s : State) : Host.Outcome State Fault Refusal := perform (oamRead n .x s.csr) s

/-- `OAM.WR.X n, v` (R204). -/
def execOamWrX (n : BitVec 6) (v : Byte) (s : State) : Host.Outcome State Fault Refusal := perform (oamWrite n .x v s.csr) s

/-- `OAM.RD.TILE n` (R205). -/
def execOamRdTile (n : BitVec 6) (s : State) : Host.Outcome State Fault Refusal := perform (oamRead n .tile s.csr) s

/-- `OAM.WR.TILE n, v` (R206). -/
def execOamWrTile (n : BitVec 6) (v : Byte) (s : State) : Host.Outcome State Fault Refusal := perform (oamWrite n .tile v s.csr) s

/-- `OAM.RD.ATTR n` (R207). -/
def execOamRdAttr (n : BitVec 6) (s : State) : Host.Outcome State Fault Refusal := perform (oamRead n .attr s.csr) s

/-- `OAM.WR.ATTR n, v` (R208). -/
def execOamWrAttr (n : BitVec 6) (v : Byte) (s : State) : Host.Outcome State Fault Refusal := perform (oamWrite n .attr v s.csr) s

/-- `OAM.RD.OOR off`: always `OamOffsetOutOfRange` (R210). -/
def execOamRdOor (off : Byte) (s : State) : Host.Outcome State Fault Refusal := perform (oamReadFault off) s

/-- `OAM.WR.OOR off, v`: always `OamOffsetOutOfRange`; no entry changes (R211). -/
def execOamWrOor (off v : Byte) (s : State) : Host.Outcome State Fault Refusal := perform (oamWriteFault off v) s

end Sys2Proof.Machine
end

