-- ==== Sys2Proof/Machine/Dispatch.lean ====
section
/-! DEFINITION. One arm per operation. -/

namespace Sys2Proof.Machine

def exec (i : Instr) (s : State) : Host.Outcome State Fault Refusal :=
  match i with
  | .rdP1 => Sys2Proof.Machine.execRdP1 s
  | .wrP1 v => Sys2Proof.Machine.execWrP1 v s
  | .rdIf => Sys2Proof.Machine.execRdIf s
  | .wrIf v => Sys2Proof.Machine.execWrIf v s
  | .rdLcdc => Sys2Proof.Machine.execRdLcdc s
  | .wrLcdc v => Sys2Proof.Machine.execWrLcdc v s
  | .rdPpu41 => Sys2Proof.Machine.execRdPpu41 s
  | .wrPpu41 v => Sys2Proof.Machine.execWrPpu41 v s
  | .rdScy => Sys2Proof.Machine.execRdScy s
  | .wrScy v => Sys2Proof.Machine.execWrScy v s
  | .rdScx => Sys2Proof.Machine.execRdScx s
  | .wrScx v => Sys2Proof.Machine.execWrScx v s
  | .rdLy => Sys2Proof.Machine.execRdLy s
  | .wrLy v => Sys2Proof.Machine.execWrLy v s
  | .rdLyc => Sys2Proof.Machine.execRdLyc s
  | .wrLyc v => Sys2Proof.Machine.execWrLyc v s
  | .rdPpu46 => Sys2Proof.Machine.execRdPpu46 s
  | .wrPpu46 v => Sys2Proof.Machine.execWrPpu46 v s
  | .rdBgp => Sys2Proof.Machine.execRdBgp s
  | .wrBgp v => Sys2Proof.Machine.execWrBgp v s
  | .rdObp0 => Sys2Proof.Machine.execRdObp0 s
  | .wrObp0 v => Sys2Proof.Machine.execWrObp0 v s
  | .rdObp1 => Sys2Proof.Machine.execRdObp1 s
  | .wrObp1 v => Sys2Proof.Machine.execWrObp1 v s
  | .rdWy => Sys2Proof.Machine.execRdWy s
  | .wrWy v => Sys2Proof.Machine.execWrWy v s
  | .rdWx => Sys2Proof.Machine.execRdWx s
  | .wrWx v => Sys2Proof.Machine.execWrWx v s
  | .rdBoot => Sys2Proof.Machine.execRdBoot s
  | .wrBoot v => Sys2Proof.Machine.execWrBoot v s
  | .rdIe => Sys2Proof.Machine.execRdIe s
  | .wrIe v => Sys2Proof.Machine.execWrIe v s
  | .rdSound off => Sys2Proof.Machine.execRdSound off s
  | .wrSound off v => Sys2Proof.Machine.execWrSound off v s
  | .rdUnimpl off => Sys2Proof.Machine.execRdUnimpl off s
  | .wrUnimpl off v => Sys2Proof.Machine.execWrUnimpl off v s
  | .oamRdY n => Sys2Proof.Machine.execOamRdY n s
  | .oamWrY n v => Sys2Proof.Machine.execOamWrY n v s
  | .oamRdX n => Sys2Proof.Machine.execOamRdX n s
  | .oamWrX n v => Sys2Proof.Machine.execOamWrX n v s
  | .oamRdTile n => Sys2Proof.Machine.execOamRdTile n s
  | .oamWrTile n v => Sys2Proof.Machine.execOamWrTile n v s
  | .oamRdAttr n => Sys2Proof.Machine.execOamRdAttr n s
  | .oamWrAttr n v => Sys2Proof.Machine.execOamWrAttr n v s
  | .oamRdOor off => Sys2Proof.Machine.execOamRdOor off s
  | .oamWrOor off v => Sys2Proof.Machine.execOamWrOor off v s
  | .btnSet j v => Sys2Proof.Machine.execBtnSet j v s
  | .lySet v => Sys2Proof.Machine.execLySet v s

end Sys2Proof.Machine
end

