-- ==== Sys2Proof/Machine/Step.lean ====
section
/-! DEFINITION. One step of the machine: the oldest presented operation word is decoded and performed; with nothing presented no agent acts. -/

namespace Sys2Proof.Machine

/-- One step. With nothing presented the state is as it was: the block has nothing in flight and takes no step of its own (70 R309; log entry 4). -/
def step (s : State) : Host.Outcome State Fault Refusal :=
  match s.fetch with
  | none         => .next s
  | some (w, s') => exec (decode w) s'

/-- `s` with a word of spec/opcode_table.json presented next, ahead of anything else; `s` itself where the number is no word. -/
def State.withFetchWord (s : State) (nbits w : Nat) : State :=
  match OpWord.ofNat (tableFormat nbits w) w with
  | .ok op   => s.present op
  | .error _ => s

end Sys2Proof.Machine
end

