-- ==== Sys2Proof/Machine/OpcodeTable.lean ====
section
/-! DEFINITION. spec/opcode_table.json as data: the mnemonics with the table's spelling, the mnemonic of each operation, and the 104 format B rows (30_encoding R95). The decoder does not read it: that the two agree is a claim. -/

namespace Sys2Proof

/-- The 48 mnemonics, in the table's order. -/
inductive Mnemonic where
  | rdP1 | wrP1 | rdIf | wrIf | rdLcdc | wrLcdc | rdPpu41 | wrPpu41
  | rdScy | wrScy | rdScx | wrScx | rdLy | wrLy | rdLyc | wrLyc
  | rdPpu46 | wrPpu46 | rdBgp | wrBgp | rdObp0 | wrObp0 | rdObp1 | wrObp1
  | rdWy | wrWy | rdWx | wrWx | rdBoot | wrBoot | rdIe | wrIe
  | rdSound | wrSound | rdUnimpl | wrUnimpl | oamRdY | oamWrY | oamRdX | oamWrX
  | oamRdTile | oamWrTile | oamRdAttr | oamWrAttr | oamRdOor | oamWrOor | btnSet | lySet
deriving DecidableEq, Repr

/-- The table's spelling (00_scope R10, 30_encoding R99). -/
def Mnemonic.text : Mnemonic → String
  | .rdP1 => "RD.P1"
  | .wrP1 => "WR.P1"
  | .rdIf => "RD.IF"
  | .wrIf => "WR.IF"
  | .rdLcdc => "RD.LCDC"
  | .wrLcdc => "WR.LCDC"
  | .rdPpu41 => "RD.PPU41"
  | .wrPpu41 => "WR.PPU41"
  | .rdScy => "RD.SCY"
  | .wrScy => "WR.SCY"
  | .rdScx => "RD.SCX"
  | .wrScx => "WR.SCX"
  | .rdLy => "RD.LY"
  | .wrLy => "WR.LY"
  | .rdLyc => "RD.LYC"
  | .wrLyc => "WR.LYC"
  | .rdPpu46 => "RD.PPU46"
  | .wrPpu46 => "WR.PPU46"
  | .rdBgp => "RD.BGP"
  | .wrBgp => "WR.BGP"
  | .rdObp0 => "RD.OBP0"
  | .wrObp0 => "WR.OBP0"
  | .rdObp1 => "RD.OBP1"
  | .wrObp1 => "WR.OBP1"
  | .rdWy => "RD.WY"
  | .wrWy => "WR.WY"
  | .rdWx => "RD.WX"
  | .wrWx => "WR.WX"
  | .rdBoot => "RD.BOOT"
  | .wrBoot => "WR.BOOT"
  | .rdIe => "RD.IE"
  | .wrIe => "WR.IE"
  | .rdSound => "RD.SOUND"
  | .wrSound => "WR.SOUND"
  | .rdUnimpl => "RD.UNIMPL"
  | .wrUnimpl => "WR.UNIMPL"
  | .oamRdY => "OAM.RD.Y"
  | .oamWrY => "OAM.WR.Y"
  | .oamRdX => "OAM.RD.X"
  | .oamWrX => "OAM.WR.X"
  | .oamRdTile => "OAM.RD.TILE"
  | .oamWrTile => "OAM.WR.TILE"
  | .oamRdAttr => "OAM.RD.ATTR"
  | .oamWrAttr => "OAM.WR.ATTR"
  | .oamRdOor => "OAM.RD.OOR"
  | .oamWrOor => "OAM.WR.OOR"
  | .btnSet => "BTN.SET"
  | .lySet => "LY.SET"

/-- The mnemonic of an operation. -/
def Instr.mnemonic : Instr → Mnemonic
  | .rdP1 => .rdP1
  | .wrP1 _ => .wrP1
  | .rdIf => .rdIf
  | .wrIf _ => .wrIf
  | .rdLcdc => .rdLcdc
  | .wrLcdc _ => .wrLcdc
  | .rdPpu41 => .rdPpu41
  | .wrPpu41 _ => .wrPpu41
  | .rdScy => .rdScy
  | .wrScy _ => .wrScy
  | .rdScx => .rdScx
  | .wrScx _ => .wrScx
  | .rdLy => .rdLy
  | .wrLy _ => .wrLy
  | .rdLyc => .rdLyc
  | .wrLyc _ => .wrLyc
  | .rdPpu46 => .rdPpu46
  | .wrPpu46 _ => .wrPpu46
  | .rdBgp => .rdBgp
  | .wrBgp _ => .wrBgp
  | .rdObp0 => .rdObp0
  | .wrObp0 _ => .wrObp0
  | .rdObp1 => .rdObp1
  | .wrObp1 _ => .wrObp1
  | .rdWy => .rdWy
  | .wrWy _ => .wrWy
  | .rdWx => .rdWx
  | .wrWx _ => .wrWx
  | .rdBoot => .rdBoot
  | .wrBoot _ => .wrBoot
  | .rdIe => .rdIe
  | .wrIe _ => .wrIe
  | .rdSound _ => .rdSound
  | .wrSound _ _ => .wrSound
  | .rdUnimpl _ => .rdUnimpl
  | .wrUnimpl _ _ => .wrUnimpl
  | .oamRdY _ => .oamRdY
  | .oamWrY _ _ => .oamWrY
  | .oamRdX _ => .oamRdX
  | .oamWrX _ _ => .oamWrX
  | .oamRdTile _ => .oamRdTile
  | .oamWrTile _ _ => .oamWrTile
  | .oamRdAttr _ => .oamRdAttr
  | .oamWrAttr _ _ => .oamWrAttr
  | .oamRdOor _ => .oamRdOor
  | .oamWrOor _ _ => .oamWrOor
  | .btnSet _ _ => .btnSet
  | .lySet _ => .lySet

/-- One format B row: a word `w` matches it when `w & mask == match` (30_encoding R95). -/
structure OpcodeRow where
  pattern  : BitVec 18
  mask     : BitVec 18
  mnemonic : Mnemonic
deriving DecidableEq, Repr

/-- `w & mask == match`. -/
def OpcodeRow.matches (r : OpcodeRow) (w : BitVec 18) : Bool := decide (w &&& r.mask = r.pattern)

/-- The single-offset IO rows. -/
def busRowsIoSingle : List OpcodeRow :=
  [ ⟨0x00000, 0x3FF00, .rdP1⟩,
    ⟨0x10000, 0x3FF00, .wrP1⟩,
    ⟨0x00F00, 0x3FF00, .rdIf⟩,
    ⟨0x10F00, 0x3FF00, .wrIf⟩,
    ⟨0x04000, 0x3FF00, .rdLcdc⟩,
    ⟨0x14000, 0x3FF00, .wrLcdc⟩,
    ⟨0x04100, 0x3FF00, .rdPpu41⟩,
    ⟨0x14100, 0x3FF00, .wrPpu41⟩,
    ⟨0x04200, 0x3FF00, .rdScy⟩,
    ⟨0x14200, 0x3FF00, .wrScy⟩,
    ⟨0x04300, 0x3FF00, .rdScx⟩,
    ⟨0x14300, 0x3FF00, .wrScx⟩,
    ⟨0x04400, 0x3FF00, .rdLy⟩,
    ⟨0x14400, 0x3FF00, .wrLy⟩,
    ⟨0x04500, 0x3FF00, .rdLyc⟩,
    ⟨0x14500, 0x3FF00, .wrLyc⟩,
    ⟨0x04600, 0x3FF00, .rdPpu46⟩,
    ⟨0x14600, 0x3FF00, .wrPpu46⟩,
    ⟨0x04700, 0x3FF00, .rdBgp⟩,
    ⟨0x14700, 0x3FF00, .wrBgp⟩,
    ⟨0x04800, 0x3FF00, .rdObp0⟩,
    ⟨0x14800, 0x3FF00, .wrObp0⟩,
    ⟨0x04900, 0x3FF00, .rdObp1⟩,
    ⟨0x14900, 0x3FF00, .wrObp1⟩,
    ⟨0x04A00, 0x3FF00, .rdWy⟩,
    ⟨0x14A00, 0x3FF00, .wrWy⟩,
    ⟨0x04B00, 0x3FF00, .rdWx⟩,
    ⟨0x14B00, 0x3FF00, .wrWx⟩,
    ⟨0x05000, 0x3FF00, .rdBoot⟩,
    ⟨0x15000, 0x3FF00, .wrBoot⟩,
    ⟨0x0FF00, 0x3FF00, .rdIe⟩,
    ⟨0x1FF00, 0x3FF00, .wrIe⟩ ]

/-- The sound stub rows, 0x10 to 0x26. -/
def busRowsSound : List OpcodeRow :=
  [ ⟨0x01000, 0x3F000, .rdSound⟩,
    ⟨0x02000, 0x3FC00, .rdSound⟩,
    ⟨0x02400, 0x3FE00, .rdSound⟩,
    ⟨0x02600, 0x3FF00, .rdSound⟩,
    ⟨0x11000, 0x3F000, .wrSound⟩,
    ⟨0x12000, 0x3FC00, .wrSound⟩,
    ⟨0x12400, 0x3FE00, .wrSound⟩,
    ⟨0x12600, 0x3FF00, .wrSound⟩ ]

/-- The unimplemented offsets, read. -/
def busRowsReadUnimpl : List OpcodeRow :=
  [ ⟨0x00100, 0x3FF00, .rdUnimpl⟩,
    ⟨0x00200, 0x3FE00, .rdUnimpl⟩,
    ⟨0x00400, 0x3FC00, .rdUnimpl⟩,
    ⟨0x00800, 0x3FC00, .rdUnimpl⟩,
    ⟨0x00C00, 0x3FE00, .rdUnimpl⟩,
    ⟨0x00E00, 0x3FF00, .rdUnimpl⟩,
    ⟨0x02700, 0x3FF00, .rdUnimpl⟩,
    ⟨0x02800, 0x3F800, .rdUnimpl⟩,
    ⟨0x03000, 0x3F000, .rdUnimpl⟩,
    ⟨0x04C00, 0x3FC00, .rdUnimpl⟩,
    ⟨0x05100, 0x3FF00, .rdUnimpl⟩,
    ⟨0x05200, 0x3FE00, .rdUnimpl⟩,
    ⟨0x05400, 0x3FC00, .rdUnimpl⟩,
    ⟨0x05800, 0x3F800, .rdUnimpl⟩,
    ⟨0x06000, 0x3E000, .rdUnimpl⟩,
    ⟨0x08000, 0x3C000, .rdUnimpl⟩,
    ⟨0x0C000, 0x3E000, .rdUnimpl⟩,
    ⟨0x0E000, 0x3F000, .rdUnimpl⟩,
    ⟨0x0F000, 0x3F800, .rdUnimpl⟩,
    ⟨0x0F800, 0x3FC00, .rdUnimpl⟩,
    ⟨0x0FC00, 0x3FE00, .rdUnimpl⟩,
    ⟨0x0FE00, 0x3FF00, .rdUnimpl⟩ ]

/-- The unimplemented offsets, written. -/
def busRowsWriteUnimpl : List OpcodeRow :=
  [ ⟨0x10100, 0x3FF00, .wrUnimpl⟩,
    ⟨0x10200, 0x3FE00, .wrUnimpl⟩,
    ⟨0x10400, 0x3FC00, .wrUnimpl⟩,
    ⟨0x10800, 0x3FC00, .wrUnimpl⟩,
    ⟨0x10C00, 0x3FE00, .wrUnimpl⟩,
    ⟨0x10E00, 0x3FF00, .wrUnimpl⟩,
    ⟨0x12700, 0x3FF00, .wrUnimpl⟩,
    ⟨0x12800, 0x3F800, .wrUnimpl⟩,
    ⟨0x13000, 0x3F000, .wrUnimpl⟩,
    ⟨0x14C00, 0x3FC00, .wrUnimpl⟩,
    ⟨0x15100, 0x3FF00, .wrUnimpl⟩,
    ⟨0x15200, 0x3FE00, .wrUnimpl⟩,
    ⟨0x15400, 0x3FC00, .wrUnimpl⟩,
    ⟨0x15800, 0x3F800, .wrUnimpl⟩,
    ⟨0x16000, 0x3E000, .wrUnimpl⟩,
    ⟨0x18000, 0x3C000, .wrUnimpl⟩,
    ⟨0x1C000, 0x3E000, .wrUnimpl⟩,
    ⟨0x1E000, 0x3F000, .wrUnimpl⟩,
    ⟨0x1F000, 0x3F800, .wrUnimpl⟩,
    ⟨0x1F800, 0x3FC00, .wrUnimpl⟩,
    ⟨0x1FC00, 0x3FE00, .wrUnimpl⟩,
    ⟨0x1FE00, 0x3FF00, .wrUnimpl⟩ ]

/-- The attribute table rows. -/
def busRowsOam : List OpcodeRow :=
  [ ⟨0x20000, 0x38300, .oamRdY⟩,
    ⟨0x28000, 0x3E300, .oamRdY⟩,
    ⟨0x30000, 0x38300, .oamWrY⟩,
    ⟨0x38000, 0x3E300, .oamWrY⟩,
    ⟨0x20100, 0x38300, .oamRdX⟩,
    ⟨0x28100, 0x3E300, .oamRdX⟩,
    ⟨0x30100, 0x38300, .oamWrX⟩,
    ⟨0x38100, 0x3E300, .oamWrX⟩,
    ⟨0x20200, 0x38300, .oamRdTile⟩,
    ⟨0x28200, 0x3E300, .oamRdTile⟩,
    ⟨0x30200, 0x38300, .oamWrTile⟩,
    ⟨0x38200, 0x3E300, .oamWrTile⟩,
    ⟨0x20300, 0x38300, .oamRdAttr⟩,
    ⟨0x28300, 0x3E300, .oamRdAttr⟩,
    ⟨0x30300, 0x38300, .oamWrAttr⟩,
    ⟨0x38300, 0x3E300, .oamWrAttr⟩,
    ⟨0x2A000, 0x3E000, .oamRdOor⟩,
    ⟨0x2C000, 0x3C000, .oamRdOor⟩,
    ⟨0x3A000, 0x3E000, .oamWrOor⟩,
    ⟨0x3C000, 0x3C000, .oamWrOor⟩ ]

/-- The table's format B rows. -/
def busRows : List OpcodeRow :=
  busRowsIoSingle ++ busRowsSound ++ busRowsReadUnimpl ++ busRowsWriteUnimpl ++ busRowsOam

end Sys2Proof
end

