-- ==== Sys2Proof/Machine/Assembler.lean ====
section
/-! DEFINITION. The assembler syntax (30_encoding R99) and the pseudo-operations (R100): one line of text to one operation, refusing an operand outside its range. The machine never reads it. -/

namespace Sys2Proof

/-- Why a line is no operation. -/
inductive AsmError where
  /-- No mnemonic of R99 or R100. -/
  | unknownMnemonic
  /-- Not the number of operands the form has. -/
  | wrongOperands
  /-- Not a number, or not a button name. -/
  | malformedOperand
  /-- "An assembler refuses an operand outside the stated range." -/
  | operandOutOfRange
deriving DecidableEq, Repr

/-! ## Text -/

/-- The value of a hexadecimal digit. -/
def hexDigit? (c : Char) : Option Nat :=
  if '0' ≤ c ∧ c ≤ '9' then some (c.toNat - 48)
  else if 'a' ≤ c ∧ c ≤ 'f' then some (c.toNat - 87)
  else if 'A' ≤ c ∧ c ≤ 'F' then some (c.toNat - 55)
  else none

/-- The value of a decimal digit. -/
def decDigit? (c : Char) : Option Nat := if '0' ≤ c ∧ c ≤ '9' then some (c.toNat - 48) else none

/-- Digits of a base, most significant first, after `acc`. -/
def digits? (digit? : Char → Option Nat) (base : Nat) : Nat → List Char → Option Nat
  | acc, []      => some acc
  | acc, c :: cs => (digit? c).bind fun d => digits? digit? base (acc * base + d) cs

/-- A nonempty hexadecimal number without prefix. -/
def hexNumber? : List Char → Option Nat
  | [] => none
  | cs => digits? hexDigit? 16 0 cs

/-- A nonempty decimal number. -/
def decNumber? : List Char → Option Nat
  | [] => none
  | cs => digits? decDigit? 10 0 cs

/-- "numbers in hexadecimal with `0x` or decimal" (R99). -/
def number? : List Char → Option Nat
  | '0' :: 'x' :: cs => hexNumber? cs
  | cs               => decNumber? cs

/-- A blank between tokens. -/
def isBlank (c : Char) : Bool := c = ' ' || c = '\t'

/-- The pieces of a text between the characters `sep` holds of. -/
def splitOn (sep : Char → Bool) : List Char → List (List Char)
  | []      => [[]]
  | c :: cs =>
    if sep c then [] :: splitOn sep cs
    else
      match splitOn sep cs with
      | []           => [[c]]
      | piece :: ps  => (c :: piece) :: ps

/-- A text without blanks at either end. -/
def trim (cs : List Char) : List Char := ((cs.dropWhile isBlank).reverse.dropWhile isBlank).reverse

/-- The first word of a line and what follows it. -/
def firstWord (line : List Char) : List Char × List Char :=
  let cs := line.dropWhile isBlank
  (cs.takeWhile (fun c => !isBlank c), cs.dropWhile (fun c => !isBlank c))

/-- "operands separated by a comma" (R99); none where nothing follows the mnemonic. -/
def operands (rest : List Char) : List (List Char) :=
  if rest.all isBlank then [] else (splitOn (fun c => c = ',') rest).map trim

/-! ## Operand forms -/

/-- A number of `k` bits. -/
def bits? (k : Nat) (cs : List Char) : Except AsmError (BitVec k) :=
  match number? cs with
  | none   => .error .malformedOperand
  | some x => if x < 2 ^ k then .ok (BitVec.ofNat k x) else .error .operandOutOfRange

/-- A button by its name in R99. -/
def button? (cs : List Char) : Except AsmError Button :=
  match (["right", "left", "up", "down", "A", "B", "select", "start"].map String.toList).idxOf? cs with
  | some k => .ok (buttonOf (BitVec.ofNat 3 k))
  | none   => .error .malformedOperand

/-- "<0 or 1>" (R99). -/
def flag? (cs : List Char) : Except AsmError Bool :=
  match number? cs with
  | some 0 => .ok false
  | some 1 => .ok true
  | some _ => .error .operandOutOfRange
  | none   => .error .malformedOperand

/-- A form without operands. -/
def form0 (i : Instr) : List (List Char) → Except AsmError Instr
  | [] => .ok i
  | _  => .error .wrongOperands

/-- A form with one number of `k` bits. -/
def form1 {k : Nat} (f : BitVec k → Instr) : List (List Char) → Except AsmError Instr
  | [a] => (bits? k a).map f
  | _   => .error .wrongOperands

/-- A form with a number of `k` bits and a byte. -/
def form2 {k : Nat} (f : BitVec k → Byte → Instr) : List (List Char) → Except AsmError Instr
  | [a, b] => (bits? k a).bind fun x => (bits? 8 b).map (f x)
  | _      => .error .wrongOperands

/-- The form of `BTN.SET`. -/
def formBtn : List (List Char) → Except AsmError Instr
  | [a, b] => (button? a).bind fun j => (flag? b).map (.btnSet j)
  | _      => .error .wrongOperands

/-! ## Lines -/

/-- The operand form of each mnemonic (R99). -/
def Mnemonic.form : Mnemonic → List (List Char) → Except AsmError Instr
  | .rdP1 => form0 .rdP1
  | .wrP1 => form1 .wrP1
  | .rdIf => form0 .rdIf
  | .wrIf => form1 .wrIf
  | .rdLcdc => form0 .rdLcdc
  | .wrLcdc => form1 .wrLcdc
  | .rdPpu41 => form0 .rdPpu41
  | .wrPpu41 => form1 .wrPpu41
  | .rdScy => form0 .rdScy
  | .wrScy => form1 .wrScy
  | .rdScx => form0 .rdScx
  | .wrScx => form1 .wrScx
  | .rdLy => form0 .rdLy
  | .wrLy => form1 .wrLy
  | .rdLyc => form0 .rdLyc
  | .wrLyc => form1 .wrLyc
  | .rdPpu46 => form0 .rdPpu46
  | .wrPpu46 => form1 .wrPpu46
  | .rdBgp => form0 .rdBgp
  | .wrBgp => form1 .wrBgp
  | .rdObp0 => form0 .rdObp0
  | .wrObp0 => form1 .wrObp0
  | .rdObp1 => form0 .rdObp1
  | .wrObp1 => form1 .wrObp1
  | .rdWy => form0 .rdWy
  | .wrWy => form1 .wrWy
  | .rdWx => form0 .rdWx
  | .wrWx => form1 .wrWx
  | .rdBoot => form0 .rdBoot
  | .wrBoot => form1 .wrBoot
  | .rdIe => form0 .rdIe
  | .wrIe => form1 .wrIe
  | .rdSound => form1 .rdSound
  | .wrSound => form2 .wrSound
  | .rdUnimpl => form1 .rdUnimpl
  | .wrUnimpl => form2 .wrUnimpl
  | .oamRdY => form1 .oamRdY
  | .oamWrY => form2 .oamWrY
  | .oamRdX => form1 .oamRdX
  | .oamWrX => form2 .oamWrX
  | .oamRdTile => form1 .oamRdTile
  | .oamWrTile => form2 .oamWrTile
  | .oamRdAttr => form1 .oamRdAttr
  | .oamWrAttr => form2 .oamWrAttr
  | .oamRdOor => form1 .oamRdOor
  | .oamWrOor => form2 .oamWrOor
  | .btnSet => formBtn
  | .lySet => form1 .lySet

/-- Every mnemonic. -/
def Mnemonic.all : List Mnemonic :=
  [ .rdP1, .wrP1, .rdIf, .wrIf, .rdLcdc, .wrLcdc, .rdPpu41, .wrPpu41,
    .rdScy, .wrScy, .rdScx, .wrScx, .rdLy, .wrLy, .rdLyc, .wrLyc,
    .rdPpu46, .wrPpu46, .rdBgp, .wrBgp, .rdObp0, .wrObp0, .rdObp1, .wrObp1,
    .rdWy, .wrWy, .rdWx, .wrWx, .rdBoot, .wrBoot, .rdIe, .wrIe,
    .rdSound, .wrSound, .rdUnimpl, .wrUnimpl, .oamRdY, .oamWrY, .oamRdX, .oamWrX,
    .oamRdTile, .oamWrTile, .oamRdAttr, .oamWrAttr, .oamRdOor, .oamWrOor, .btnSet, .lySet ]

/-- The operation of a mnemonic with its operands, refused where an operand is out of its range (R99). -/
def assembleAs (m : Mnemonic) (ops : List (List Char)) : Except AsmError Instr :=
  (m.form ops).bind fun i => if i.wellFormed then .ok i else .error .operandOutOfRange

/-- The four pseudo-operations, each the one operation the map gives for its offset (R100). -/
def pseudo? (name : List Char) : Option (List (List Char) → Except AsmError Instr) :=
  if name = "IORD".toList then some (form1 iord)
  else if name = "IOWR".toList then some (form2 iowr)
  else if name = "OAMRD".toList then some (form1 oamrd)
  else if name = "OAMWR".toList then some (form2 oamwr)
  else none

/-- One line, "One operation per line" (R99, R100). -/
def assemble (line : List Char) : Except AsmError Instr :=
  let (name, rest) := firstWord line
  match pseudo? name with
  | some form => form (operands rest)
  | none =>
    match Mnemonic.all.find? (fun m => m.text.toList = name) with
    | some m => assembleAs m (operands rest)
    | none   => .error .unknownMnemonic

end Sys2Proof
end

