-- ==== Sys2Proof/Machine/DebugHost.lean ====
section
/-! DEFINITION. The debugger host (Execution Controller) around the block, over an abstract processing core (60_exceptions R270 to R282). By 00_scope R4 (d) it is not part of the hardware: State, step and exec do not know it, and all it does to the block is let the core run (R270). -/

namespace Sys2Proof.DebugHost

open Sys2Proof

/-- "two modes, Running and Debugging, chosen once at startup and not switched at runtime" (R271). -/
inductive Mode where
  | running
  | debugging
deriving DecidableEq, Repr

/-- The registers of the processing core the grammar names (R276) that are 8 bits wide. PRESUMED (log entry 16), unsafe: that these eight are 8 bits is the console's documentation (10_state R35, 93 K26), no rule. -/
inductive ByteReg where
  | a | f | b | c | d | e | h | l
deriving DecidableEq, Repr

/-- The registers of the processing core the grammar names that are 16 bits wide: "the combined 16-bit register named HL" (R276), and four more. PRESUMED (log entry 16), unsafe: that SP, PC, BC and DE are 16 bits is the console's documentation (10_state R35, R36, 93 K26), no rule. -/
inductive WordReg where
  | sp | pc | bc | de | hl
deriving DecidableEq, Repr

/-- "REG ∈ A,F,B,C,D,E,H,L,SP,PC,BC,DE,HL" (R276); the name fixes the width, but for HL a presumed one (log entry 16). -/
inductive RegName where
  | byte (r : ByteReg)
  | word (r : WordReg)
deriving DecidableEq, Repr

/-- The commands (R273 to R280). -/
inductive Command where
  | continue_
  | setBreakpoint (addr : Nat)
  | step
  | printRegister (r : RegName)
  | printCpuRegs
  | disassemble (n : Nat)
  | quit
  | lastCommand
deriving DecidableEq, Repr

/-- Why a line is no command (R281); "recovered locally", "never fatal" (R282). -/
inductive Diagnostic where
  | unknownCommand
  | wrongArity
  | notHexadecimal
  | notDecimal
  | unknownRegister
deriving DecidableEq, Repr

/-! ## The grammar (R281) -/

/-- A character in lower case. -/
def lower (ch : Char) : Char := if 'A' ≤ ch ∧ ch ≤ 'Z' then Char.ofNat (ch.toNat + 32) else ch

/-- The register names, in lower case. -/
def regNames : List (List Char × RegName) :=
  [ ("a".toList, .byte .a), ("f".toList, .byte .f), ("b".toList, .byte .b), ("c".toList, .byte .c), ("d".toList, .byte .d),
    ("e".toList, .byte .e), ("h".toList, .byte .h), ("l".toList, .byte .l), ("sp".toList, .word .sp), ("pc".toList, .word .pc),
    ("bc".toList, .word .bc), ("de".toList, .word .de), ("hl".toList, .word .hl) ]

/-- A register by name, "case-insensitive" (R276). -/
def reg? (name : List Char) : Option RegName := regNames.lookup (name.map lower)

/-- "one command per input line, whitespace-separated tokens" (R281). -/
def tokens (line : List Char) : List (List Char) := (splitOn isBlank line).filter (fun t => !t.isEmpty)

/-- The parser: total, it "must not panic on malformed input" (R281). -/
def parseTokens : List (List Char) → Except Diagnostic Command
  | [] => .ok .lastCommand
  | cmd :: args =>
    if cmd = "c".toList then (if args = [] then .ok .continue_ else .error .wrongArity)
    else if cmd = "s".toList then (if args = [] then .ok .step else .error .wrongArity)
    else if cmd = "pa".toList then (if args = [] then .ok .printCpuRegs else .error .wrongArity)
    else if cmd = "q".toList then (if args = [] then .ok .quit else .error .wrongArity)
    else if cmd = "b".toList then
      match args with
      | [x] => (match hexNumber? x with | some n => .ok (.setBreakpoint n) | none => .error .notHexadecimal)
      | _   => .error .wrongArity
    else if cmd = "d".toList then
      match args with
      | [x] => (match decNumber? x with | some n => .ok (.disassemble n) | none => .error .notDecimal)
      | _   => .error .wrongArity
    else if cmd = "p".toList then
      match args with
      | [x] => (match reg? x with | some r => .ok (.printRegister r) | none => .error .unknownRegister)
      | _   => .error .wrongArity
    else .error .unknownCommand

/-- One input line. -/
def parse (line : List Char) : Except Diagnostic Command := parseTokens (tokens line)

/-! ## What the controller needs of the core (R272) -/

/-- What one instruction of the core comes to: executed, with its description, or the run halted in it by a fault of the block (R282); either way the core is left in `s`. -/
inductive Stepped (σ : Type) where
  | executed (s : σ) (text : List Char)
  | halted (s : σ)
deriving Repr

/-- What a free run comes to: the condition was met, the run halted (R282), or it never returns. -/
inductive Ran (σ : Type) where
  | stopped (s : σ)
  | halted (s : σ)
  | forever
deriving Repr

/-- The core as the controller sees it: "{step, run, disassemble-ahead, register-read-by-name}" (R272), each a synchronous call. The core itself is out of scope (00_scope R4 (a)), and with it how these relate. -/
structure CoreView (σ : Type) where
  /-- An 8-bit register by name. -/
  byteReg     : σ → ByteReg → BitVec 8
  /-- A 16-bit register by name. -/
  wordReg     : σ → WordReg → BitVec 16
  /-- "a single-instruction step operation returning a human-readable instruction description". -/
  step        : σ → Stepped σ
  /-- "a free-running execute-until-condition operation". -/
  run         : (σ → Bool) → σ → Ran σ
  /-- The next `n` instructions' addresses and text; it returns no new core state (R278). -/
  disassemble : σ → Nat → List (Nat × List Char)

/-- The program counter as an instruction address. -/
def CoreView.pc {σ : Type} (core : CoreView σ) (s : σ) : Nat := (core.wordReg s .pc).toNat

/-- The core a controller drives and the two points the spec leaves open of it (log entry 14). -/
structure Setup (σ : Type) where
  core         : CoreView σ
  /-- `CONTINUE_STOPS_AT_START`: whether a breakpoint where *Continue* starts stops it at once (93 K13). -/
  stopsAtStart : Bool
  /-- The condition Running mode gives the core's free run; R271 names none. -/
  runUntil     : σ → Bool

/-! ## What is printed -/

/-- A register's value at its width. -/
inductive RegValue where
  | byte (v : BitVec 8)
  | word (v : BitVec 16)
deriving DecidableEq, Repr

/-- "a register file addressable by name" (R272). -/
def CoreView.reg {σ : Type} (core : CoreView σ) (s : σ) : RegName → RegValue
  | .byte r => .byte (core.byteReg s r)
  | .word r => .word (core.wordReg s r)

/-- A hexadecimal digit. DESIGN CHOICE (log entry 14), safe: the digits above 9 are lower case; the spec gives no case. -/
def hexChar (n : Nat) : Char := if n < 10 then Char.ofNat (48 + n) else Char.ofNat (87 + n)

/-- "in hexadecimal, width matching register size" (R276). DESIGN CHOICE (log entry 14), safe: no prefix is printed; the spec says of none. -/
def RegValue.hex : RegValue → List Char
  | .byte v => [hexChar (v.toNat / 16), hexChar (v.toNat % 16)]
  | .word v => [hexChar (v.toNat / 4096), hexChar (v.toNat / 256 % 16), hexChar (v.toNat / 16 % 16), hexChar (v.toNat % 16)]

/-- What the controller prints. -/
inductive Output where
  | executed (addr : Nat) (text : List Char)
  | register (r : RegName) (hex : List Char)
  | registers (rs : List (RegName × List Char))
  | listing (is : List (Nat × List Char))
  | diagnostic (d : Diagnostic)
  | inputError
deriving DecidableEq, Repr

/-- Every register the grammar names, for `pa` (R277). -/
def allRegs : List RegName := regNames.map (fun p => p.2)

/-! ## The controller -/

/-- What the controller is doing. -/
inductive Activity where
  | ready                     -- at the prompt in Debugging; about to invoke the free run in Running
  | continuing (check : Bool) -- in a *Continue*; `check` says whether the next instruction's address is checked
  | ended                     -- the loop or the run is over (R279, R282)
deriving DecidableEq, Repr

/-- The controller's own state: the mode, the breakpoint set (a list, R274), the recorded last command (R280) and what it is doing. -/
structure Controller where
  mode        : Mode
  breakpoints : List Nat
  lastCommand : Option Command
  activity    : Activity
deriving DecidableEq, Repr

/-- At startup, in the chosen mode: "no persistence beyond the run" (R271, R274). -/
def Controller.start (m : Mode) : Controller := ⟨m, [], none, .ready⟩

/-- The loop or the run is over. -/
def Controller.finish (k : Controller) : Controller := { k with activity := .ended }

/-- "toggle membership of `addr`": present becomes absent, absent becomes present (R274). -/
def toggle (addr : Nat) (bps : List Nat) : List Nat :=
  if addr ∈ bps then bps.filter (fun x => x ≠ addr) else addr :: bps

/-- One instruction of the core in a controller that goes on as `k`: its address and text are printed (R273, R275); a fault of the block ends the run with the core as the fault left it (R282). -/
def execute {σ : Type} (h : Setup σ) (k : Controller) (s : σ) : Controller × σ × List Output :=
  match h.core.step s with
  | .executed s' text => (k, s', [.executed (h.core.pc s) text])
  | .halted s'        => (k.finish, s', [])

/-- One turn of *Continue*: at a member of the breakpoint set, "checked before executing the instruction at that address", back to the prompt; else one instruction, and on (R273). -/
def continueOnce {σ : Type} (h : Setup σ) (k : Controller) (s : σ) (check : Bool) : Controller × σ × List Output :=
  if check ∧ h.core.pc s ∈ k.breakpoints then ({ k with activity := .ready }, s, [])
  else execute h { k with activity := .continuing true } s

/-- One command: the controller, the core and what is printed. `c` only enters the run, whose turns are `continueOnce` (R273). -/
def runCommand {σ : Type} (h : Setup σ) (k : Controller) (s : σ) : Command → Controller × σ × List Output
  | .continue_          => ({ k with activity := .continuing h.stopsAtStart }, s, [])
  | .setBreakpoint addr => ({ k with breakpoints := toggle addr k.breakpoints }, s, [])
  | .step               => execute h k s
  | .printRegister r    => (k, s, [.register r (h.core.reg s r).hex])
  | .printCpuRegs       => (k, s, [.registers (allRegs.map (fun r => (r, (h.core.reg s r).hex)))])
  | .disassemble n      => (k, s, [.listing (h.core.disassemble s n)])
  | .quit               => (k.finish, s, [])
  | .lastCommand        => (k, s, [])

/-- One input line in the Debugging loop: a malformed line prints a diagnostic and is otherwise nothing (R281, R282); an empty line is inert, the recorded command is never replayed (R280). -/
def runLine {σ : Type} (h : Setup σ) (k : Controller) (s : σ) (line : List Char) : Controller × σ × List Output :=
  match parse line with
  | .error d         => (k, s, [.diagnostic d])
  | .ok .lastCommand => (k, s, [])
  | .ok cmd          =>
    let (k', s', out) := runCommand h k s cmd
    ({ k' with lastCommand := some cmd }, s', out)

/-- Running mode: one invocation of "the processing core's free-run operation; no further state" (R271). One that never returns leaves the controller in it for good. -/
def freeRun {σ : Type} (h : Setup σ) (k : Controller) (s : σ) : Controller × σ × List Output :=
  match h.core.run h.runUntil s with
  | .stopped s' => (k, s', [])
  | .halted s'  => (k.finish, s', [])
  | .forever    => (k, s, [])

/-! ## The loop -/

/-- What the debugger's input stream gives: a line, or "I/O failure on the debugger's input stream" (R282). -/
inductive Input where
  | line (text : List Char)
  | failure
deriving DecidableEq, Repr

/-- One item of the input stream at the prompt: a failure prints an error and prompts again (R282). -/
def takeInput {σ : Type} (h : Setup σ) (k : Controller) (s : σ) : Input → Controller × σ × List Output
  | .line text => runLine h k s text
  | .failure   => (k, s, [.inputError])

/-- The controller, its core and the input not read yet. -/
structure Session (σ : Type) where
  controller : Controller
  core       : σ
  input      : List Input

/-- A session after an action that leaves `input` unread. -/
def Session.after {σ : Type} (r : Controller × σ × List Output) (input : List Input) : Session σ × List Output :=
  (⟨r.1, r.2.1, input⟩, r.2.2)

/-- One action of the controller, by its mode (R271): in Running one free run; in Debugging one turn of a *Continue* under way, which reads no input (R273: "never by external signal"), else one item of input, waiting while there is none. -/
def act {σ : Type} (h : Setup σ) (x : Session σ) : Session σ × List Output :=
  match x.controller.activity, x.controller.mode with
  | .ended, _                     => (x, [])
  | .ready, .running              => Session.after (freeRun h x.controller x.core) x.input
  | .continuing _, .running       => Session.after (freeRun h x.controller x.core) x.input
  | .continuing check, .debugging => Session.after (continueOnce h x.controller x.core check) x.input
  | .ready, .debugging            =>
    match x.input with
    | []        => (x, [])
    | i :: rest => Session.after (takeInput h x.controller x.core i) rest

/-- `n` actions and all they print. The spec's loop and its *Continue* have no bound: a claim about them holds for every `n`. -/
def acts {σ : Type} (h : Setup σ) : Nat → Session σ → Session σ × List Output
  | 0, x     => (x, [])
  | n + 1, x =>
    let (y, out) := act h x
    let (z, out') := acts h n y
    (z, out ++ out')

end Sys2Proof.DebugHost
end

