-- ==== Sys2Proof/Safety.lean ====
section
/-! DEFINITION. The terms claims are stated in: a running state, the words software must avoid (70 R306), a legal fault latch (60 R250), and what a history of operations says about the state (40 R126, 41 R146, 42 R188, 44 R230). -/

namespace Sys2Proof

open Sys2Proof.Machine

/-! ## Safe runs -/

/-- No fault is recorded: operations are performed (60 R262). Every other state is halted. -/
abbrev Running (s : State) : Prop := s.csr.fault = none

/-- IO offsets software may access at all (70 R306). -/
def accessibleIo (off : Byte) : Bool :=
  decide (off.toNat = 0x00 ∨ off.toNat = 0x0F ∨ (0x10 ≤ off.toNat ∧ off.toNat ≤ 0x26) ∨ off.toNat = 0x40 ∨
    (0x42 ≤ off.toNat ∧ off.toNat ≤ 0x45) ∨ (0x47 ≤ off.toNat ∧ off.toNat ≤ 0x4B) ∨ off.toNat = 0x50 ∨ off.toNat = 0xFF)

/-- A word software must avoid for the run to continue (70 R306), by `space`, `dir` and `off` alone. -/
def OpWord.avoided : OpWord → Bool
  | .bus w =>
    match busSpace w, busDir w with
    | .io, .read   => !accessibleIo (busOff w) || inSoundRange (busOff w) || decide ((busOff w).toNat = 0x50)
    | .io, .write  => !accessibleIo (busOff w) || decide ((busOff w).toNat = 0x44)
    | .oam, .read  => outOfTable (busOff w)
    | .oam, .write => outOfTable (busOff w)
  | .input _  => false
  | .raster _ => false

/-- The words of a list that are performed: those before the first that faults (60 R262; the word that faults is the last the block acts on). -/
def performedBefore (ws : List OpWord) : List Instr := (ws.takeWhile (fun w => !w.avoided)).map decode

/-! ## The fault latch -/

/-- A record that some row of the table of 60 R250 raises: its kind's condition on space, direction and offset, and write data exactly on a write. -/
def FaultRecord.legal (r : FaultRecord) : Bool :=
  (match r.kind with
   | .unimplementedIO          => decide (r.space = .io) && inUnimplemented r.off
   | .unimplementedPpuRegister => decide (r.space = .io) && (decide (r.off = 0x41) || decide (r.off = 0x46))
   | .readOnlyWrite            => decide (r.space = .io) && decide (r.off = 0x44) && decide (r.dir = .write)
   | .writeOnlyRead            => decide (r.space = .io) && (inSoundRange r.off || decide (r.off = 0x50)) && decide (r.dir = .read)
   | .oamOffsetOutOfRange      => decide (r.space = .oam) && outOfTable r.off
   | .invalidPackedValue       => false) &&
  decide (r.value.isSome ↔ r.dir = .write)

/-- The latch is empty or holds a legal record. -/
def LatchLegal (s : State) : Prop := ∀ r, s.csr.fault = some r → FaultRecord.legal r = true

/-! ## Histories -/

/-- The most recent datum a selector finds in a list of operations, or the given one if there is none. -/
def mostRecent {α : Type} (sel : Instr → Option α) (dflt : α) (is : List Instr) : α :=
  ((is.filterMap sel).getLast?).getD dflt

/-- The state with a list of presented words (20_memory R68: one total order of all agents). -/
def presenting (s : State) (ws : List OpWord) : State := s.setPending ws

/-- `k` steps, ending at the first that answers no next state. -/
def runSteps : Nat → State → Host.Outcome State Fault Refusal
  | 0, s => .next s
  | k + 1, s =>
    match step s with
    | .next s'   => runSteps k s'
    | .fault r   => .fault r
    | .refused r => .refused r

/-- All presented words of `ws` taken from `s`, one step each. -/
def runAll (s : State) (ws : List OpWord) : Host.Outcome State Fault Refusal :=
  runSteps ws.length (presenting s ws)

end Sys2Proof
end

