-- ==== Sys2Proof/Certificates/Slice0/Obligations.lean ====
section
/-! DEFINITION. The statements for the provers, from the numbered rules of spec/. `Running s` is "no fault recorded"; a statement about an operation gives the WHOLE next state, so its frame is part of it. -/

namespace Sys2Proof.Claims

open Sys2Proof Sys2Proof.Machine

/-- `w` is the word of `i`: it decodes to `i`, and `i` encodes to it. -/
def HasWord (i : Instr) (w : BitVec 18) : Prop := decode (.bus w) = i ∧ encode i = .bus w

/-- `top | off << 8`, the word of a read at an offset, or of a write of 0x00. -/
def atOffset (top : BitVec 18) (off : Byte) : BitVec 18 := top ||| off.setWidth 18 <<< 8

/-- `base | v`, the word of a write whose data byte is `v`. -/
def withData (base : BitVec 18) (v : Byte) : BitVec 18 := base ||| v.setWidth 18

/-- The bus word of `i` is a read. -/
def IsRead (i : Instr) : Prop := ∃ w, encode i = .bus w ∧ busDir w = .read

/-- `w` with its data in the canonical spelling: 0x00 on a read (30_encoding R98). -/
def canonical : OpWord → OpWord
  | .bus w => if busDir w = .read then .bus (w &&& 0x3FF00) else .bus w
  | w      => w

/-- The state after a performed read of `v`. -/
def reading (s : State) (v : Byte) : State := { s with rdata := some v }

/-- The state after a performed write that leaves the block `c`. -/
def wrote (s : State) (c : Csr) : State := { s with csr := c, rdata := none }

/-- The state after a fault with record `r`: nothing of the block but the latch changes, nothing is returned (60 R262). -/
def faulted (s : State) (r : FaultRecord) : State := { s with csr := { s.csr with fault := some r }, rdata := none }

/-- A write of `v` by `wr`, then a read by `rd`: the read yields `u`. -/
def WriteThenReadYields (wr rd : Instr) (s : State) (u : Byte) : Prop :=
  ∃ t t', exec wr s = .next t ∧ exec rd t = .next t' ∧ t'.rdata = some u

/-! Which datum an operation gives to one register, for histories. -/

def ifData : Instr → Option Byte
  | .wrIf v => some v
  | _ => none
def ieData : Instr → Option Byte
  | .wrIe v => some v
  | _ => none
def lcdcData : Instr → Option Byte
  | .wrLcdc v => some v
  | _ => none
def scyData : Instr → Option Byte
  | .wrScy v => some v
  | _ => none
def scxData : Instr → Option Byte
  | .wrScx v => some v
  | _ => none
def lyData : Instr → Option Byte
  | .lySet v => some v
  | _ => none
def lycData : Instr → Option Byte
  | .wrLyc v => some v
  | _ => none
def bgpData : Instr → Option Byte
  | .wrBgp v => some v
  | _ => none
def obp0Data : Instr → Option Byte
  | .wrObp0 v => some v
  | _ => none
def obp1Data : Instr → Option Byte
  | .wrObp1 v => some v
  | _ => none
def wyData : Instr → Option Byte
  | .wrWy v => some v
  | _ => none
def wxData : Instr → Option Byte
  | .wrWx v => some v
  | _ => none
/-- The bank a `WR.P1` with `v & 0x30` nonzero selects. -/
def bankData : Instr → Option Bank
  | .wrP1 v => if v.getLsbD 5 then some .buttons else if v.getLsbD 4 then some .direction else none
  | _ => none
/-- The value a `BTN.SET` gives the flag `j`. -/
def btnData (j : Button) : Instr → Option Bool
  | .btnSet k v => if k = j then some v else none
  | _ => none
/-- The byte an attribute table write gives field `f` of entry `n`, as it reads back (43 R212). -/
def oamData (n : BitVec 6) (f : SpriteField) : Instr → Option Byte
  | .oamWrY m v    => if m = n ∧ f = .y then some v else none
  | .oamWrX m v    => if m = n ∧ f = .x then some v else none
  | .oamWrTile m v => if m = n ∧ f = .tile then some v else none
  | .oamWrAttr m v => if m = n ∧ f = .attr then some (v &&& 0xF0) else none
  | _ => none
/-- A `WR.BOOT` with a nonzero byte. -/
def endsBoot : Instr → Bool
  | .wrBoot v => decide (v ≠ 0)
  | _ => false

end Sys2Proof.Claims

open Sys2Proof Sys2Proof.Machine Sys2Proof.Claims

/-! ## Encoding -/

/-- Decoding the word of a well-formed operation gives it back, with every operand at every value. The words are the spec's own choice (decision D2). -/
def Obligations.DecodeOfEncodeIsTheOperation : Prop :=
  ∀ i : Instr, i.wellFormed = true → decode (encode i) = i

/-- Every word of every format decodes to a well-formed operation, and encoding that gives the word back with the data of a read at its canonical 0x00 (decisions D2, D31). -/
def Obligations.EncodeOfDecodeIsTheCanonicalWord : Prop :=
  ∀ w : OpWord, (decode w).wellFormed = true ∧ encode (decode w) = canonical w

/-- The table's format B rows have pairwise disjoint (match, mask) sets and together cover all words: exactly one row matches each word, and its mnemonic is that of the decoded operation (decision D2). -/
def Obligations.ExactlyOneTableRowMatchesEachWord : Prop :=
  ∀ w : BitVec 18, ∃ r, busRows.filter (fun r => r.matches w) = [r] ∧ r.mnemonic = (decode (.bus w)).mnemonic

/-- Words of the spec's examples decode to the operations they stand for (one or more of each family; the words are decision D2's). -/
def Obligations.ExampleWordsDecode : Prop :=
  decode (.bus 0x00F00) = .rdIf ∧ decode (.bus 0x10FE5) = .wrIf 0xE5 ∧ decode (.bus 0x1FF1F) = .wrIe 0x1F ∧
  decode (.bus 0x00000) = .rdP1 ∧ decode (.bus 0x10030) = .wrP1 0x30 ∧ decode (.input 0x9) = .btnSet .a true ∧
  decode (.bus 0x14091) = .wrLcdc 0x91 ∧ decode (.bus 0x14727) = .wrBgp 0x27 ∧ decode (.bus 0x14400) = .wrLy 0x00 ∧
  decode (.raster 0x90) = .lySet 0x90 ∧ decode (.bus 0x04100) = .rdPpu41 ∧ decode (.bus 0x146C0) = .wrPpu46 0xC0 ∧
  decode (.bus 0x29F00) = .oamRdAttr 39 ∧ decode (.bus 0x30450) = .oamWrY 1 0x50 ∧ decode (.bus 0x2A000) = .oamRdOor 0xA0 ∧
  decode (.bus 0x12680) = .wrSound 0x26 0x80 ∧ decode (.bus 0x12700) = .wrUnimpl 0x27 0x00 ∧ decode (.bus 0x05000) = .rdBoot ∧
  decode (.bus 0x15001) = .wrBoot 0x01 ∧ decode (.bus 0x08000) = .rdUnimpl 0x80

/-- Two format B read words that differ only in bits 7:0 are the same operation (decision D31). -/
def Obligations.ReadDataIsIgnored : Prop :=
  ∀ w u : BitVec 18, busDir w = .read → w &&& 0x3FF00 = u &&& 0x3FF00 → decode (.bus w) = decode (.bus u)

/-- The four pseudo-operations are the operations of their words; `IOWR 0x47, 0x27` is `WR.BGP 0x27`, word 0x14727 (decision D30). -/
def Obligations.PseudoOperationsExpandByTheMap : Prop :=
  (∀ off, decode (.bus (busWord .io .read off 0)) = iord off) ∧
  (∀ off v, decode (.bus (busWord .io .write off v)) = iowr off v) ∧
  (∀ off, decode (.bus (busWord .oam .read off 0)) = oamrd off) ∧
  (∀ off v, decode (.bus (busWord .oam .write off v)) = oamwr off v) ∧
  iowr 0x47 0x27 = .wrBgp 0x27 ∧ encode (.wrBgp 0x27) = .bus 0x14727

/-- The set U is exactly what the dispatch names nothing for, 217 offsets; reads and writes agree on it (the spec marks U as derived). -/
def Obligations.UnimplementedSetIsTheRestOfThePage : Prop :=
  (∀ off, inUnimplemented off = true ↔ iord off = .rdUnimpl off) ∧
  (∀ off v, inUnimplemented off = true ↔ iowr off v = .wrUnimpl off v) ∧
  ((List.range 256).filter (fun k => inUnimplemented (BitVec.ofNat 8 k))).length = 217

/-- What the assembler accepts for a mnemonic is a well-formed operation of that mnemonic: an operand outside its range is refused, and a number too wide for its field is refused too, never wrapped (decision D30). -/
def Obligations.AssemblerRefusesOutOfRangeOperands : Prop :=
  (∀ m ops i, assembleAs m ops = .ok i → i.wellFormed = true ∧ i.mnemonic = m) ∧
  (∀ k text x, number? text = some x → bits? k text = if x < 2 ^ k then .ok (BitVec.ofNat k x) else .error .operandOutOfRange) ∧
  (∀ text x, number? text = some x → flag? text = if x < 2 then .ok (decide (x = 1)) else .error .operandOutOfRange) ∧
  assembleAs .oamRdY ["64".toList] = .error .operandOutOfRange ∧ assembleAs .lySet ["256".toList] = .error .operandOutOfRange

/-! ## The step -/

/-- A step runs the oldest presented word: decoded, on the state with that word taken off. With no word presented it changes nothing (the model's schedule: log entries 2 and 4). -/
def Obligations.StepRunsTheOldestPresentedWord : Prop :=
  (∀ s w ws, s.pending = w :: ws → step s = exec (decode w) { s with pending := ws }) ∧
  (∀ s : State, s.pending = [] → step s = .next s)

/-- A word of the opcode table placed by `withFetchWord` is the operation the very next step runs, on the state as it was (log entries 2 and 7). -/
def Obligations.PlacedTableWordRunsNext : Prop :=
  ∀ s nbits w i, decodeTableWord nbits w = some i → step (s.withFetchWord nbits w) = exec i s

/-- Every operation, in every state, answers a next state; the machine never stops on ordinary data (R262's fault entry is a next state: log entry 5). -/
def Obligations.EveryStepAnswersANextState : Prop :=
  (∀ i s, ∃ t, exec i s = .next t) ∧ (∀ s, ∃ t, step s = .next t)

/-! ## Interrupt controller -/

/-- "register value on read is always exactly the OR-sum of `flag ? mask : 0` over all five bits": `pack5` and `unpack5` bit by bit, and their laws (R120). -/
def Obligations.InterruptFlagsPackBitByBit : Prop :=
  (∀ f k, (pack5 f).getLsbD (IrqSource.bit k) = f.flag k) ∧
  (∀ f, pack5 f = (if f.vblank then 0x01 else 0) ||| (if f.lcdstat then 0x02 else 0) ||| (if f.timer then 0x04 else 0) |||
    (if f.serial then 0x08 else 0) ||| (if f.joypad then 0x10 else 0)) ∧
  (∀ f, pack5 f &&& 0xE0 = 0 ∧ (pack5 f).toNat ≤ 0x1F) ∧
  (∀ v k, (unpack5 v).flag k = v.getLsbD (IrqSource.bit k)) ∧
  (∀ v, pack5 (unpack5 v) = v &&& 0x1F) ∧
  (∀ f, unpack5 (pack5 f) = f)

/-- `RD.IF` yields the five pending flags and changes nothing; `WR.IF v` overwrites all five at once and nothing else (R121, R122). -/
def Obligations.InterruptFlagRegisterReadsAndOverwrites : Prop :=
  HasWord .rdIf 0x00F00 ∧ (∀ v, HasWord (.wrIf v) (withData 0x10F00 v)) ∧
  (∀ s, Running s → exec .rdIf s = .next (reading s (pack5 s.csr.if_))) ∧
  (∀ f, pack5 f &&& 0xE0 = 0) ∧
  (∀ p, exec .rdIf (State.resetWith p) = .next (reading (State.resetWith p) 0x00)) ∧
  pack5 ⟨true, false, false, false, false⟩ = 0x01 ∧
  (∀ v s, Running s → exec (.wrIf v) s = .next (wrote s { s.csr with if_ := unpack5 v })) ∧
  (∀ v k, (unpack5 v).flag k = v.getLsbD (IrqSource.bit k)) ∧
  (∀ f, unpack5 (pack5 f) = f) ∧
  (∀ s, Running s → exec (.wrIf 0xE0) s = exec (.wrIf 0x00) s) ∧
  (∀ i s t, exec i s = .next t → (∀ v, i ≠ .wrIf v) → t.csr.if_ = s.csr.if_) ∧
  unpack5 0xE5 = ⟨true, false, true, false, false⟩ ∧
  (∀ s, Running s → WriteThenReadYields (.wrIf 0xE5) .rdIf s 0x05)

/-- `RD.IE` yields the five enable flags and changes nothing; `WR.IE v` overwrites all five at once and nothing else (R123, R124). -/
def Obligations.InterruptEnableRegisterReadsAndOverwrites : Prop :=
  HasWord .rdIe 0x0FF00 ∧ (∀ v, HasWord (.wrIe v) (withData 0x1FF00 v)) ∧
  (∀ s, Running s → exec .rdIe s = .next (reading s (pack5 s.csr.ie))) ∧
  (∀ f, pack5 f &&& 0xE0 = 0) ∧
  (∀ p, exec .rdIe (State.resetWith p) = .next (reading (State.resetWith p) 0x00)) ∧
  (∀ v s, Running s → exec (.wrIe v) s = .next (wrote s { s.csr with ie := unpack5 v })) ∧
  (∀ v k, (unpack5 v).flag k = v.getLsbD (IrqSource.bit k)) ∧
  (∀ s, Running s → WriteThenReadYields (.wrIe 0x1F) .rdIe s 0x1F ∧ WriteThenReadYields (.wrIe 0xFF) .rdIe s 0x1F) ∧
  unpack5 0x1F = ⟨true, true, true, true, true⟩ ∧ unpack5 0x00 = ⟨false, false, false, false, false⟩

/-- The interrupt flags influence nothing but the reads of IF and IE: no pending and enabled source causes anything (decision D23). -/
def Obligations.InterruptFlagsInfluenceNothingElse : Prop :=
  ∀ i (s s' t t' : State), s' = { s with csr := { s.csr with ie := s'.csr.ie, if_ := s'.csr.if_ } } →
    exec i s = .next t → exec i s' = .next t' →
    t'.csr = { t.csr with ie := t'.csr.ie, if_ := t'.csr.if_ } ∧ t'.pending = t.pending ∧
    (i ≠ .rdIf → i ≠ .rdIe → t'.rdata = t.rdata)

/-! ## Joypad -/

/-- `RD.P1` yields, on bits 0 to 3, the four flags of the selected bank and changes nothing (R141). -/
def Obligations.JoypadReadShowsTheSelectedBank : Prop :=
  HasWord .rdP1 0x00000 ∧
  (∀ s, Running s → ∃ v, exec .rdP1 s = .next (reading s v) ∧ v.toNat ≤ 0x0F ∧
    (∀ k, k < 4 → v.getLsbD k = s.csr.btn.get (buttonOf (BitVec.ofNat 3 (4 * s.csr.bank.index + k))))) ∧
  (∀ s, Running s → s.csr.bank = .direction → exec .rdP1 s = .next (reading s
    ((if s.csr.btn.right then 0x01 else 0) ||| (if s.csr.btn.left then 0x02 else 0) |||
      (if s.csr.btn.up then 0x04 else 0) ||| (if s.csr.btn.down then 0x08 else 0)))) ∧
  (∀ s, Running s → s.csr.bank = .buttons → exec .rdP1 s = .next (reading s
    ((if s.csr.btn.a then 0x01 else 0) ||| (if s.csr.btn.b then 0x02 else 0) |||
      (if s.csr.btn.select then 0x04 else 0) ||| (if s.csr.btn.start then 0x08 else 0))))

/-- `WR.P1 v` sets the bank to Buttons if bit 5 is set, else to Direction if bit 4 is set, else leaves it; it changes nothing else. That bit 5 wins over bit 4 is the spec's decision D5. -/
def Obligations.JoypadWriteSelectsTheBank : Prop :=
  (∀ v, HasWord (.wrP1 v) (withData 0x10000 v)) ∧
  (∀ v s, Running s → exec (.wrP1 v) s = .next (wrote s
    { s.csr with bank := if v.getLsbD 5 then .buttons else if v.getLsbD 4 then .direction else s.csr.bank })) ∧
  (∀ v w s, Running s → v &&& 0x30 = w &&& 0x30 → exec (.wrP1 v) s = exec (.wrP1 w) s)

/-- `BTN.SET j, v` sets the flag `j` and nothing else. The side port and the numbering are the spec's decision D17. -/
def Obligations.ButtonSetChangesOneFlag : Prop :=
  (∀ j v, decode (.input (j.index ++ BitVec.ofBool v)) = .btnSet j v) ∧ decode (.input 0b1001) = .btnSet .a true ∧
  (∀ j v s, Running s → ∃ b, exec (.btnSet j v) s = .next (wrote s { s.csr with btn := b }) ∧
    b.get j = v ∧ ∀ k, k ≠ j → b.get k = s.csr.btn.get k)

/-- Bank isolation: two states whose selected bank and its four flags agree yield the same byte, whatever the other bank's flags are (the spec marks this law as derived). -/
def Obligations.UnselectedBankIsInvisible : Prop :=
  ∀ (s s' t t' : State), Running s → Running s' → s'.csr.bank = s.csr.bank →
    (∀ k, k < 4 → s'.csr.btn.get (buttonOf (BitVec.ofNat 3 (4 * s.csr.bank.index + k))) =
      s.csr.btn.get (buttonOf (BitVec.ofNat 3 (4 * s.csr.bank.index + k)))) →
    exec .rdP1 s = .next t → exec .rdP1 s' = .next t' → t'.rdata = t.rdata

/-! ## PPU control registers -/

/-- `RD.LCDC` yields flag i at bit i, `WR.LCDC v` overwrites all eight flags, and a write reads back whole. One flag per bit at its own position is the spec's decision D22. -/
def Obligations.LcdControlReadsAndOverwrites : Prop :=
  HasWord .rdLcdc 0x04000 ∧ (∀ v, HasWord (.wrLcdc v) (withData 0x14000 v)) ∧
  (∀ s, Running s → exec .rdLcdc s = .next (reading s
    ((if s.csr.lcdc.f0 then 0x01 else 0) ||| (if s.csr.lcdc.f1 then 0x02 else 0) ||| (if s.csr.lcdc.f2 then 0x04 else 0) |||
      (if s.csr.lcdc.f3 then 0x08 else 0) ||| (if s.csr.lcdc.f4 then 0x10 else 0) ||| (if s.csr.lcdc.f5 then 0x20 else 0) |||
      (if s.csr.lcdc.f6 then 0x40 else 0) ||| (if s.csr.lcdc.f7 then 0x80 else 0)))) ∧
  (∀ v s, Running s → exec (.wrLcdc v) s = .next (wrote s { s.csr with
    lcdc := ⟨v.getLsbD 0, v.getLsbD 1, v.getLsbD 2, v.getLsbD 3, v.getLsbD 4, v.getLsbD 5, v.getLsbD 6, v.getLsbD 7⟩ })) ∧
  (∀ v s, Running s → WriteThenReadYields (.wrLcdc v) .rdLcdc s v)

/-- SCY, SCX, LYC, WY and WX: a read yields the byte and changes nothing, a write stores the whole byte and changes nothing else (R163 to R166, R170, R171, R178 to R181). -/
def Obligations.PlainByteRegistersReadAndStore : Prop :=
  (HasWord .rdScy 0x04200 ∧ ∀ s, Running s → exec .rdScy s = .next (reading s s.csr.scy)) ∧
  (∀ v, HasWord (.wrScy v) (withData 0x14200 v) ∧ ∀ s, Running s → exec (.wrScy v) s = .next (wrote s { s.csr with scy := v })) ∧
  (HasWord .rdScx 0x04300 ∧ ∀ s, Running s → exec .rdScx s = .next (reading s s.csr.scx)) ∧
  (∀ v, HasWord (.wrScx v) (withData 0x14300 v) ∧ ∀ s, Running s → exec (.wrScx v) s = .next (wrote s { s.csr with scx := v })) ∧
  (HasWord .rdLyc 0x04500 ∧ ∀ s, Running s → exec .rdLyc s = .next (reading s s.csr.lyc)) ∧
  (∀ v, HasWord (.wrLyc v) (withData 0x14500 v) ∧ ∀ s, Running s → exec (.wrLyc v) s = .next (wrote s { s.csr with lyc := v })) ∧
  (HasWord .rdWy 0x04A00 ∧ ∀ s, Running s → exec .rdWy s = .next (reading s s.csr.wy)) ∧
  (∀ v, HasWord (.wrWy v) (withData 0x14A00 v) ∧ ∀ s, Running s → exec (.wrWy v) s = .next (wrote s { s.csr with wy := v })) ∧
  (HasWord .rdWx 0x04B00 ∧ ∀ s, Running s → exec .rdWx s = .next (reading s s.csr.wx)) ∧
  (∀ v, HasWord (.wrWx v) (withData 0x14B00 v) ∧ ∀ s, Running s → exec (.wrWx v) s = .next (wrote s { s.csr with wx := v })) ∧
  (∀ v, decode (.bus (withData 0x14C00 v)) = .wrUnimpl 0x4C v) ∧
  (∀ v s, Running s → WriteThenReadYields (.wrScy v) .rdScy s v ∧ WriteThenReadYields (.wrScx v) .rdScx s v ∧
    WriteThenReadYields (.wrLyc v) .rdLyc s v ∧ WriteThenReadYields (.wrWy v) .rdWy s v ∧ WriteThenReadYields (.wrWx v) .rdWx s v)

/-- `RD.LY` yields the line counter and changes nothing; no operation but `LY.SET` changes the counter, and its value is whatever the last one left, or the reset parameter (R167). -/
def Obligations.LineCounterReadsWhatTheRasterizerLeft : Prop :=
  HasWord .rdLy 0x04400 ∧
  (∀ s, Running s → exec .rdLy s = .next (reading s s.csr.ly)) ∧
  (∀ p, exec .rdLy (State.resetWith p) = .next (reading (State.resetWith p) p.ppu.ly)) ∧
  (∀ v s, Running s → WriteThenReadYields (.lySet v) .rdLy s v) ∧
  (∀ i s t, exec i s = .next t → (∀ v, i ≠ .lySet v) → t.csr.ly = s.csr.ly)

/-- `LY.SET v` sets the line counter and nothing else, for every byte. The operation is the spec's decision D16. -/
def Obligations.LineCounterSetByTheRasterizer : Prop :=
  (∀ v, decode (.raster v) = .lySet v) ∧
  (∀ v s, Running s → exec (.lySet v) s = .next (wrote s { s.csr with ly := v }))

/-- `WR.LY v` faults with ReadOnlyWrite for every `v`, the counter keeping its value. Rejecting the write is the spec's decision D4, its latch D19. -/
def Obligations.LineCounterWriteFaults : Prop :=
  ∀ v, HasWord (.wrLy v) (withData 0x14400 v) ∧
    ∀ s, Running s → exec (.wrLy v) s = .next (faulted s ⟨.readOnlyWrite, .io, 0x44, .write, some v⟩)

/-- The palette packing: entry e is `v[2e+1 : 2e]`, and back (R182). -/
def Obligations.PalettePackingSplitsIntoBitPairs : Prop :=
  (∀ v, (unpackPal v).e0.setWidth 8 = v &&& 3 ∧ (unpackPal v).e1.setWidth 8 = (v >>> 2) &&& 3 ∧
    (unpackPal v).e2.setWidth 8 = (v >>> 4) &&& 3 ∧ (unpackPal v).e3.setWidth 8 = (v >>> 6) &&& 3) ∧
  (∀ p, (packPal p).toNat = p.e0.toNat + 4 * p.e1.toNat + 16 * p.e2.toNat + 64 * p.e3.toNat) ∧
  packPal ⟨2, 0, 0, 0⟩ = 0x02

/-- The palette round trip, lossless both ways, as functions and through the registers (the spec marks both laws as derived). -/
def Obligations.PaletteRoundTripIsLossless : Prop :=
  (∀ v, packPal (unpackPal v) = v) ∧ (∀ p, unpackPal (packPal p) = p) ∧
  (∀ v s, Running s → WriteThenReadYields (.wrBgp v) .rdBgp s v ∧ WriteThenReadYields (.wrObp0 v) .rdObp0 s v ∧
    WriteThenReadYields (.wrObp1 v) .rdObp1 s v)

/-- BGP, OBP0 and OBP1: a read yields the packed palette, a write sets its four entries, each leaving the other two palettes and everything else (R172 to R177). -/
def Obligations.PaletteRegistersReadAndUnpack : Prop :=
  (HasWord .rdBgp 0x04700 ∧ ∀ s, Running s → exec .rdBgp s = .next (reading s (packPal s.csr.bgp))) ∧
  (∀ v, HasWord (.wrBgp v) (withData 0x14700 v) ∧ ∀ s, Running s → exec (.wrBgp v) s = .next (wrote s { s.csr with bgp := unpackPal v })) ∧
  (HasWord .rdObp0 0x04800 ∧ ∀ s, Running s → exec .rdObp0 s = .next (reading s (packPal s.csr.obp0))) ∧
  (∀ v, HasWord (.wrObp0 v) (withData 0x14800 v) ∧ ∀ s, Running s → exec (.wrObp0 v) s = .next (wrote s { s.csr with obp0 := unpackPal v })) ∧
  (HasWord .rdObp1 0x04900 ∧ ∀ s, Running s → exec .rdObp1 s = .next (reading s (packPal s.csr.obp1))) ∧
  (∀ v, HasWord (.wrObp1 v) (withData 0x14900 v) ∧ ∀ s, Running s → exec (.wrObp1 v) s = .next (wrote s { s.csr with obp1 := unpackPal v })) ∧
  packPal ⟨3, 1, 2, 0⟩ = 0x27 ∧ unpackPal 0x27 = ⟨3, 1, 2, 0⟩ ∧ packPal ⟨0, 0, 1, 2⟩ = 0x90 ∧ unpackPal 0xE4 = ⟨0, 1, 2, 3⟩ ∧
  packPal ⟨3, 3, 3, 3⟩ = 0xFF ∧ unpackPal 0x1B = ⟨3, 2, 1, 0⟩

/-- IO offsets 0x41 and 0x46, read or written, always fault with UnimplementedPpuRegister, code 2, and the run halts; the attribute table has no other path into it than `OAM.WR.*`. Keeping this fatal under a code of its own is the spec's decision D9, the number 2 D20, the latch and the halt D19. -/
def Obligations.UnimplementedPpuOffsetsFault : Prop :=
  (HasWord .rdPpu41 0x04100 ∧ ∀ s, Running s →
    exec .rdPpu41 s = .next (faulted s ⟨.unimplementedPpuRegister, .io, 0x41, .read, none⟩)) ∧
  (∀ v, HasWord (.wrPpu41 v) (withData 0x14100 v) ∧ ∀ s, Running s →
    exec (.wrPpu41 v) s = .next (faulted s ⟨.unimplementedPpuRegister, .io, 0x41, .write, some v⟩)) ∧
  (HasWord .rdPpu46 0x04600 ∧ ∀ s, Running s →
    exec .rdPpu46 s = .next (faulted s ⟨.unimplementedPpuRegister, .io, 0x46, .read, none⟩)) ∧
  (∀ v, HasWord (.wrPpu46 v) (withData 0x14600 v) ∧ ∀ s, Running s →
    exec (.wrPpu46 v) s = .next (faulted s ⟨.unimplementedPpuRegister, .io, 0x46, .write, some v⟩)) ∧
  (∀ s r, r.kind = .unimplementedPpuRegister → (faulted s r).faultCode = 2 ∧ (faulted s r).halted = true) ∧
  FaultKind.code .unimplementedPpuRegister ≠ FaultKind.code .unimplementedIO ∧
  (∀ i s t, exec i s = .next t → t.csr.oam ≠ s.csr.oam →
    ∃ n v, i = .oamWrY n v ∨ i = .oamWrX n v ∨ i = .oamWrTile n v ∨ i = .oamWrAttr n v)

/-! ## Sprite attribute table -/

/-- `OAM.RD.<f> n` yields the field of entry n and changes nothing, for n in 0 to 39; the low nibble of the attribute byte is always 0. The palette at bit 4 of the attribute byte is the spec's decision D6, its low nibble D7. -/
def Obligations.SpriteReadsYieldTheField : Prop :=
  (∀ (n : BitVec 6) (h : n.toNat < 40),
    HasWord (.oamRdY n) (atOffset 0x20000 (n ++ (0 : BitVec 2))) ∧
    HasWord (.oamRdX n) (atOffset 0x20000 (n ++ (1 : BitVec 2))) ∧
    HasWord (.oamRdTile n) (atOffset 0x20000 (n ++ (2 : BitVec 2))) ∧
    HasWord (.oamRdAttr n) (atOffset 0x20000 (n ++ (3 : BitVec 2))) ∧
    ∀ s, Running s →
      exec (.oamRdY n) s = .next (reading s s.csr.oam[n.toNat].y) ∧
      exec (.oamRdX n) s = .next (reading s s.csr.oam[n.toNat].x) ∧
      exec (.oamRdTile n) s = .next (reading s s.csr.oam[n.toNat].tile) ∧
      exec (.oamRdAttr n) s = .next (reading s (packAttr s.csr.oam[n.toNat]))) ∧
  (∀ e, packAttr e &&& 0x0F = 0) ∧
  (∀ e : SpriteEntry, e.priority = true → e.flipY = false → e.flipX = true → e.palette = 1 → packAttr e = 0xB0) ∧
  encode (.oamRdY 1) = .bus 0x20400 ∧ encode (.oamRdX 1) = .bus 0x20500 ∧ encode (.oamRdTile 1) = .bus 0x20600 ∧
  encode (.oamRdAttr 39) = .bus 0x29F00

/-- `OAM.WR.Y`, `OAM.WR.X` and `OAM.WR.TILE` store the whole byte into their field of entry n, for n in 0 to 39; every other field and entry and everything else is unchanged (R202, R204, R206). -/
def Obligations.SpriteWritesStoreTheField : Prop :=
  (∀ (n : BitVec 6) (v : Byte) (h : n.toNat < 40),
    HasWord (.oamWrY n v) (withData (atOffset 0x30000 (n ++ (0 : BitVec 2))) v) ∧
    HasWord (.oamWrX n v) (withData (atOffset 0x30000 (n ++ (1 : BitVec 2))) v) ∧
    HasWord (.oamWrTile n v) (withData (atOffset 0x30000 (n ++ (2 : BitVec 2))) v) ∧
    ∀ s, Running s →
      exec (.oamWrY n v) s = .next (wrote s { s.csr with oam := s.csr.oam.set n.toNat { s.csr.oam[n.toNat] with y := v } }) ∧
      exec (.oamWrX n v) s = .next (wrote s { s.csr with oam := s.csr.oam.set n.toNat { s.csr.oam[n.toNat] with x := v } }) ∧
      exec (.oamWrTile n v) s = .next (wrote s { s.csr with oam := s.csr.oam.set n.toNat { s.csr.oam[n.toNat] with tile := v } })) ∧
  encode (.oamWrY 1 0x50) = .bus 0x30450 ∧ encode (.oamWrX 1 0x10) = .bus 0x30510 ∧ encode (.oamWrTile 1 0x7F) = .bus 0x3067F

/-- `OAM.WR.ATTR n, v` sets the four attribute fields of entry n from bits 7, 6, 5 and 4 and nothing else; the low nibble is dropped. The palette bit is the spec's decision D6, the low nibble D7. -/
def Obligations.SpriteAttributeWriteSetsFourFields : Prop :=
  (∀ (n : BitVec 6) (v : Byte) (h : n.toNat < 40),
    HasWord (.oamWrAttr n v) (withData (atOffset 0x30000 (n ++ (3 : BitVec 2))) v) ∧
    ∀ s, Running s → ∃ e : SpriteEntry,
      exec (.oamWrAttr n v) s = .next (wrote s { s.csr with oam := s.csr.oam.set n.toNat e }) ∧
      e.y = s.csr.oam[n.toNat].y ∧ e.x = s.csr.oam[n.toNat].x ∧ e.tile = s.csr.oam[n.toNat].tile ∧
      e.priority = v.getLsbD 7 ∧ e.flipY = v.getLsbD 6 ∧ e.flipX = v.getLsbD 5 ∧ e.palette = BitVec.ofBool (v.getLsbD 4)) ∧
  (∀ v e, packAttr (unpackAttr v e) = v &&& 0xF0) ∧ (∀ e, unpackAttr (packAttr e) e = e)

/-- Attribute table offsets 0xA0 to 0xFF always fault with OamOffsetOutOfRange; no entry changes. The range check is the spec's decision D8, the latch D19; that the two terms fault at an offset below 0xA0 too, where no word decodes to them, is the model's choice (log entry 6). -/
def Obligations.OffsetsBeyondTheTableFault : Prop :=
  (∀ off s, Running s → exec (.oamRdOor off) s = .next (faulted s ⟨.oamOffsetOutOfRange, .oam, off, .read, none⟩)) ∧
  (∀ off v s, Running s → exec (.oamWrOor off v) s = .next (faulted s ⟨.oamOffsetOutOfRange, .oam, off, .write, some v⟩)) ∧
  (∀ off, oamrd off = .oamRdOor off ↔ 0xA0 ≤ off.toNat) ∧
  (∀ off v, oamwr off v = .oamWrOor off v ↔ 0xA0 ≤ off.toNat)

/-- The 160 offsets address disjoint state: after a write at `a`, a read at `a` yields the written byte (masked by 0xF0 for field 3), and a read at any other `b` yields what it yielded before (the spec marks both laws as derived). -/
def Obligations.SpriteOffsetsAreIndependent : Prop :=
  ∀ (a b v : Byte) (s : State), Running s → a.toNat < 160 → b.toNat < 160 →
    ∃ t u u', exec (oamwr a v) s = .next t ∧ exec (oamrd b) s = .next u ∧ exec (oamrd b) t = .next u' ∧
      u'.rdata = (if a = b then (if oamField a = .attr then some (v &&& 0xF0) else some v) else u.rdata)

/-! ## Register file -/

/-- `WR.SOUND off, v` is accepted and discarded at all 23 offsets: nothing of the block changes; the table has four rows for it, up to 0x26 (R222). -/
def Obligations.SoundWritesAreDiscarded : Prop :=
  (∀ off v, 0x10 ≤ off.toNat → off.toNat ≤ 0x26 →
    HasWord (.wrSound off v) (withData (atOffset 0x10000 off) v) ∧
    ∀ s, Running s → exec (.wrSound off v) s = .next { s with rdata := none }) ∧
  (∀ v, decode (.bus (withData 0x12700 v)) = .wrUnimpl 0x27 v) ∧ encode (.wrSound 0x26 0x80) = .bus 0x12680 ∧
  (busRows.filter (fun r => r.mnemonic = .wrSound)).map (fun r => (r.pattern, r.mask)) =
    [(0x11000, 0x3F000), (0x12000, 0x3FC00), (0x12400, 0x3FE00), (0x12600, 0x3FF00)]

/-- Reads of the sound range and of the boot control always fault with WriteOnlyRead, code 4, and yield nothing. Giving these reads no value is the spec's decisions D10 and D11, the number 4 D20, the latch D19; that the RD.SOUND term faults outside 0x10 to 0x26 too, where no word decodes to it, is the model's choice (log entry 6). -/
def Obligations.WriteOnlyReadsFault : Prop :=
  (∀ off, 0x10 ≤ off.toNat → off.toNat ≤ 0x26 → HasWord (.rdSound off) (atOffset 0x00000 off)) ∧
  (∀ off s, Running s → exec (.rdSound off) s = .next (faulted s ⟨.writeOnlyRead, .io, off, .read, none⟩)) ∧
  HasWord .rdBoot 0x05000 ∧
  (∀ s, Running s → exec .rdBoot s = .next (faulted s ⟨.writeOnlyRead, .io, 0x50, .read, none⟩)) ∧
  (∀ s r, r.kind = .writeOnlyRead → (faulted s r).faultCode = 4)

/-- `WR.BOOT v`: any nonzero byte makes the boot flag false, zero changes nothing; nothing else changes, and nothing re-enables the overlay (R224). -/
def Obligations.BootWriteDisablesTheOverlayOnce : Prop :=
  (∀ v, HasWord (.wrBoot v) (withData 0x15000 v)) ∧
  (∀ v s, Running s → v ≠ 0 → exec (.wrBoot v) s = .next (wrote s { s.csr with boot := false })) ∧
  (∀ s, Running s → exec (.wrBoot 0) s = .next (wrote s s.csr)) ∧
  (∀ s t, Running s → exec (.wrBoot 0x01) s = .next t → t.bootSequence = false) ∧
  (∀ i s t, exec i s = .next t → s.csr.boot = false → t.csr.boot = false)

/-- `RD.UNIMPL` and `WR.UNIMPL` always fault with UnimplementedIO, code 1, at every offset of U. Keeping this fatal is the spec's decision D9, the number 1 D20, the latch D19; that the terms fault at an offset outside U too, where no word decodes to them, is the model's choice (log entry 6). -/
def Obligations.UnimplementedOffsetsFault : Prop :=
  (∀ off, inUnimplemented off = true → HasWord (.rdUnimpl off) (atOffset 0x00000 off)) ∧
  (∀ off v, inUnimplemented off = true → HasWord (.wrUnimpl off v) (withData (atOffset 0x10000 off) v)) ∧
  (∀ off s, Running s → exec (.rdUnimpl off) s = .next (faulted s ⟨.unimplementedIO, .io, off, .read, none⟩)) ∧
  (∀ off v s, Running s → exec (.wrUnimpl off v) s = .next (faulted s ⟨.unimplementedIO, .io, off, .write, some v⟩)) ∧
  (∀ s r, r.kind = .unimplementedIO → (faulted s r).faultCode = 1)

/-! ## Faults -/

/-- Once a fault is recorded no operation is performed: each changes nothing and returns nothing. The sticky latch is the spec's decision D19. -/
def Obligations.NothingIsPerformedWhileHalted : Prop :=
  ∀ i s r, s.csr.fault = some r → exec i s = .next { s with rdata := none }

/-- A fault is precise: the faulting operation changes nothing but the latch and returns no data. The spec's decision D19. -/
def Obligations.FaultsChangeOnlyTheLatch : Prop :=
  ∀ i s t r, Running s → exec i s = .next t → t.csr.fault = some r → t = faulted s r

/-- A running block faults on a word exactly when software must avoid it: whether it faults is decided by the word alone, never by data or state (the spec marks both rules as derived). -/
def Obligations.ExactlyTheAvoidedWordsFault : Prop :=
  ∀ w s t, Running s → exec (decode w) s = .next t → (t.csr.fault ≠ none ↔ OpWord.avoided w = true)

/-- The record holds the operation's own space, offset, direction and, on a write, its data (the numbering of kinds is the spec's decision D20). -/
def Obligations.FaultRecordsNameTheOperation : Prop :=
  ∀ (w : BitVec 18) s t r, Running s → exec (decode (.bus w)) s = .next t → t.csr.fault = some r →
    r.space = busSpace w ∧ r.off = busOff w ∧ r.dir = busDir w ∧
    r.value = (if busDir w = .write then some (busData w) else none)

/-- A byte is returned exactly by a performed bus read: a write, a side-port update, a fault and an operation presented while halted return nothing (the words are decision D2's, the halt D19, the field the byte is held in log entry 3). -/
def Obligations.DataIsReturnedExactlyByPerformedReads : Prop :=
  ∀ w s t, exec (decode w) s = .next t →
    (t.rdata.isSome = true ↔ Running s ∧ OpWord.avoided w = false ∧ ∃ b, w = .bus b ∧ busDir b = .read)

/-- The fault latch stays legal: whatever record it holds is one that the table of faults raises, so code 6, InvalidPackedValue, is never recorded; and a record once set is never changed (decisions D19, D20, D26). -/
def Obligations.StepKeepsTheFaultLatchLegal : Prop :=
  ∀ s t, LatchLegal s → step s = .next t →
    LatchLegal t ∧ (∀ r, s.csr.fault = some r → t.csr.fault = some r) ∧ (∀ r, t.csr.fault = some r → r.kind ≠ .invalidPackedValue)

/-- The latch is legal after reset, for every value of the open parameters (70 R301; decision D19). -/
def Obligations.ResetLatchIsLegal : Prop := ∀ p, LatchLegal (State.resetWith p)

/-! ## The whole block -/

/-- A read that performs changes nothing of the block and, read again at once, yields the same; one that faults sets the latch and nothing else (the spec marks this rule as derived). -/
def Obligations.ReadsHaveNoSideEffect : Prop :=
  ∀ i s t, IsRead i → Running s → exec i s = .next t →
    (t.csr.fault = none → t.csr = s.csr ∧ exec i t = .next t) ∧
    (∀ r, t.csr.fault = some r → t.csr = { s.csr with fault := some r })

/-- Performing the same operation twice in a row leaves the block as performing it once (the spec marks this rule as derived). -/
def Obligations.OperationsAreIdempotent : Prop :=
  ∀ i s t, exec i s = .next t → ∃ u, exec i t = .next u ∧ u.csr = t.csr

/-- Every field of the block has one writer: whatever an operation changed, it is that field's own write. No operation touches what the agents have presented (the agents' side ports are decisions D16 and D17). -/
def Obligations.EachFieldHasOneWriter : Prop :=
  ∀ i s t, exec i s = .next t →
    (t.csr.ie ≠ s.csr.ie → ∃ v, i = .wrIe v) ∧ (t.csr.if_ ≠ s.csr.if_ → ∃ v, i = .wrIf v) ∧
    (t.csr.bank ≠ s.csr.bank → ∃ v, i = .wrP1 v) ∧ (t.csr.btn ≠ s.csr.btn → ∃ j v, i = .btnSet j v) ∧
    (t.csr.lcdc ≠ s.csr.lcdc → ∃ v, i = .wrLcdc v) ∧ (t.csr.scy ≠ s.csr.scy → ∃ v, i = .wrScy v) ∧
    (t.csr.scx ≠ s.csr.scx → ∃ v, i = .wrScx v) ∧ (t.csr.ly ≠ s.csr.ly → ∃ v, i = .lySet v) ∧
    (t.csr.lyc ≠ s.csr.lyc → ∃ v, i = .wrLyc v) ∧ (t.csr.bgp ≠ s.csr.bgp → ∃ v, i = .wrBgp v) ∧
    (t.csr.obp0 ≠ s.csr.obp0 → ∃ v, i = .wrObp0 v) ∧ (t.csr.obp1 ≠ s.csr.obp1 → ∃ v, i = .wrObp1 v) ∧
    (t.csr.wy ≠ s.csr.wy → ∃ v, i = .wrWy v) ∧ (t.csr.wx ≠ s.csr.wx → ∃ v, i = .wrWx v) ∧
    (t.csr.oam ≠ s.csr.oam → ∃ n v, i = .oamWrY n v ∨ i = .oamWrX n v ∨ i = .oamWrTile n v ∨ i = .oamWrAttr n v) ∧
    (t.csr.boot ≠ s.csr.boot → t.csr.boot = false ∧ ∃ v, v ≠ 0 ∧ i = .wrBoot v) ∧
    t.pending = s.pending

/-- After reset: both interrupt registers zeroed, the boot flag true, no fault; every open element at its parameter, for every value of the parameters (the parameters are decisions D13, D14 and D15; nothing presented and nothing returned are log entries 2 and 3). -/
def Obligations.ResetLeavesTheStatedValues : Prop :=
  ∀ p, let c := (State.resetWith p).csr
    (∀ k, c.ie.flag k = false ∧ c.if_.flag k = false) ∧ c.boot = true ∧ c.fault = none ∧
    c.bank = p.p1Bank ∧ c.btn = p.buttons ∧ packLcdc c.lcdc = p.ppu.lcdc ∧ c.scy = p.ppu.scy ∧ c.scx = p.ppu.scx ∧
    c.ly = p.ppu.ly ∧ c.lyc = p.ppu.lyc ∧ packPal c.bgp = p.ppu.bgp ∧ packPal c.obp0 = p.ppu.obp0 ∧
    packPal c.obp1 = p.ppu.obp1 ∧ c.wy = p.ppu.wy ∧ c.wx = p.ppu.wx ∧ c.oam = p.oam ∧
    (State.resetWith p).pending = [] ∧ (State.resetWith p).rdata = none

/-! ## Histories: every list of presented words, every interleaving of the agents -/

/-- After any list of words from any reset, IF, IE and the PPU registers hold what the most recent performed write (for LY, the most recent `LY.SET`) gave them, or their reset value (the spec marks these rules as derived; that performing ends at the first fault is decision D19, the presented list log entry 2). -/
def Obligations.RegistersHoldTheMostRecentWrite : Prop :=
  ∀ p ws, ∃ t, runAll (State.resetWith p) ws = .next t ∧
    let h := performedBefore ws
    pack5 t.csr.if_ = mostRecent ifData 0 h &&& 0x1F ∧ pack5 t.csr.ie = mostRecent ieData 0 h &&& 0x1F ∧
    packLcdc t.csr.lcdc = mostRecent lcdcData p.ppu.lcdc h ∧ t.csr.scy = mostRecent scyData p.ppu.scy h ∧
    t.csr.scx = mostRecent scxData p.ppu.scx h ∧ t.csr.ly = mostRecent lyData p.ppu.ly h ∧
    t.csr.lyc = mostRecent lycData p.ppu.lyc h ∧ packPal t.csr.bgp = mostRecent bgpData p.ppu.bgp h ∧
    packPal t.csr.obp0 = mostRecent obp0Data p.ppu.obp0 h ∧ packPal t.csr.obp1 = mostRecent obp1Data p.ppu.obp1 h ∧
    t.csr.wy = mostRecent wyData p.ppu.wy h ∧ t.csr.wx = mostRecent wxData p.ppu.wx h

/-- After any list of words from any reset, the bank is the one the most recent performed `WR.P1` with a select bit chose, and each button flag what its most recent `BTN.SET` gave it (the spec marks this rule as derived; that performing ends at the first fault is decision D19, the presented list log entry 2). -/
def Obligations.JoypadHoldsTheMostRecentSelectionAndInput : Prop :=
  ∀ p ws, ∃ t, runAll (State.resetWith p) ws = .next t ∧
    t.csr.bank = mostRecent bankData p.p1Bank (performedBefore ws) ∧
    ∀ j, t.csr.btn.get j = mostRecent (btnData j) (p.buttons.get j) (performedBefore ws)

/-- After any list of words from any reset, every field of every sprite entry reads what its most recent performed write gave it, or its reset value (the spec marks these laws as derived; that performing ends at the first fault is decision D19, the presented list log entry 2). -/
def Obligations.SpriteTableHoldsTheMostRecentWrite : Prop :=
  ∀ p ws, ∃ t, runAll (State.resetWith p) ws = .next t ∧
    ∀ (n : BitVec 6) (f : SpriteField) (h : n.toNat < 40),
      readField f t.csr.oam[n.toNat] = mostRecent (oamData n f) (readField f p.oam[n.toNat]) (performedBefore ws)

/-- The output `boot_sequence()`: true from reset until the first performed `WR.BOOT` with a nonzero value and false ever after, still readable after a fault; true means boot code is served at address 0, false cartridge code. That performing ends at the first fault is decision D19, the presented list log entry 2. -/
def Obligations.BootOutputFollowsTheHistory : Prop :=
  (∀ p ws, ∃ t, runAll (State.resetWith p) ws = .next t ∧
    t.bootSequence = !(performedBefore ws).any endsBoot) ∧
  (∀ s : State, s.bootSequence = s.csr.boot) ∧
  (∀ s r, (faulted s r).bootSequence = s.bootSequence) ∧
  (∀ s : State, (s.bootSequence = true → s.servedAtZero = .bootCode) ∧ (s.bootSequence = false → s.servedAtZero = .cartridgeCode))

/-- A run from reset halts exactly if some presented word must be avoided, and the recorded fault is that of the first such word (the spec marks these rules as derived; that the first record stays is decision D19, the presented list log entry 2). -/
def Obligations.RunsHaltExactlyAtTheFirstAvoidedWord : Prop :=
  ∀ p ws, ∃ t, runAll (State.resetWith p) ws = .next t ∧
    (t.csr.fault = none ↔ ∀ w ∈ ws, OpWord.avoided w = false) ∧
    (∀ w, (ws.find? OpWord.avoided) = some w → ∃ u, exec (decode w) (State.resetWith p) = .next u ∧ t.csr.fault = u.csr.fault)

/-- The step behind these histories: an operation of a running block gives each field its own datum of the operation, and where the operation has none the field keeps its value (derived from the operation rules; P1 rests on decision D5, LCDC on D22, the attribute byte on D6 and D7, the side ports on D16 and D17; that the operations that fault keep every field rests on D4, D8 to D11 and D19, and for a term no word decodes to on log entry 6). -/
def Obligations.PerformedOperationsGiveEachFieldItsDatum : Prop :=
  ∀ i s t, Running s → exec i s = .next t →
    pack5 t.csr.if_ = ((ifData i).map (· &&& 0x1F)).getD (pack5 s.csr.if_) ∧
    pack5 t.csr.ie = ((ieData i).map (· &&& 0x1F)).getD (pack5 s.csr.ie) ∧
    packLcdc t.csr.lcdc = (lcdcData i).getD (packLcdc s.csr.lcdc) ∧ t.csr.scy = (scyData i).getD s.csr.scy ∧
    t.csr.scx = (scxData i).getD s.csr.scx ∧ t.csr.ly = (lyData i).getD s.csr.ly ∧ t.csr.lyc = (lycData i).getD s.csr.lyc ∧
    packPal t.csr.bgp = (bgpData i).getD (packPal s.csr.bgp) ∧ packPal t.csr.obp0 = (obp0Data i).getD (packPal s.csr.obp0) ∧
    packPal t.csr.obp1 = (obp1Data i).getD (packPal s.csr.obp1) ∧ t.csr.wy = (wyData i).getD s.csr.wy ∧
    t.csr.wx = (wxData i).getD s.csr.wx ∧ t.csr.bank = (bankData i).getD s.csr.bank ∧
    (∀ j, t.csr.btn.get j = (btnData j i).getD (s.csr.btn.get j)) ∧
    (∀ (n : BitVec 6) (f : SpriteField) (_ : n.toNat < 40),
      readField f t.csr.oam[n.toNat] = (oamData n f i).getD (readField f s.csr.oam[n.toNat])) ∧
    t.csr.boot = (s.csr.boot && !endsBoot i)

/-! ## The debugger host (outside the hardware) -/

/-- The mode is chosen at startup and no action switches it; an action in Running mode is one free run of the core and reads no input, one in Debugging mode at the prompt dispatches one item of input. The condition given to the free run is left open (log entry 14). -/
def Obligations.ModeIsChosenAtStartup : Prop :=
  (∀ m, (DebugHost.Controller.start m).mode = m) ∧
  ∀ (σ : Type) (h : DebugHost.Setup σ) (x : DebugHost.Session σ),
    (∀ n, (DebugHost.acts h n x).1.controller.mode = x.controller.mode) ∧
    (x.controller.mode = .running → x.controller.activity = .ready →
      (∀ s', h.core.run h.runUntil x.core = .stopped s' → DebugHost.act h x = ({ x with core := s' }, [])) ∧
      (∀ s', h.core.run h.runUntil x.core = .halted s' →
        DebugHost.act h x = ({ x with controller := { x.controller with activity := .ended }, core := s' }, [])) ∧
      (h.core.run h.runUntil x.core = .forever → DebugHost.act h x = (x, []))) ∧
    (x.controller.mode = .debugging → x.controller.activity = .ready → ∀ line rest, x.input = .line line :: rest →
      ∃ k s out, DebugHost.runLine h x.controller x.core line = (k, s, out) ∧ DebugHost.act h x = (⟨k, s, rest⟩, out))

/-- *Continue*: `c` enters it; each turn under way reads no input and executes one instruction, printing its address and text, unless its address is in the breakpoint set, checked before executing it; there the loop is back at the prompt. A fault of the block in a turn ends it, the core being as the fault left it. Without a reachable breakpoint or fault it never ends, however many turns are taken. Whether the first address is checked is the open parameter K13; that and the halted turn printing nothing are log entry 14. -/
def Obligations.ContinueEndsAtABreakpointOrAFault : Prop :=
  ∀ (σ : Type) (h : DebugHost.Setup σ) (x : DebugHost.Session σ), x.controller.mode = .debugging →
    (∀ rest, x.controller.activity = .ready → x.input = .line "c".toList :: rest → DebugHost.act h x =
      (⟨{ x.controller with activity := .continuing h.stopsAtStart, lastCommand := some .continue_ }, x.core, rest⟩, [])) ∧
    (∀ check, x.controller.activity = .continuing check →
      (DebugHost.act h x).1.input = x.input ∧
      (check = true → h.core.pc x.core ∈ x.controller.breakpoints →
        DebugHost.act h x = ({ x with controller := { x.controller with activity := .ready } }, [])) ∧
      (∀ s' text, ¬(check = true ∧ h.core.pc x.core ∈ x.controller.breakpoints) → h.core.step x.core = .executed s' text →
        DebugHost.act h x = ({ x with controller := { x.controller with activity := .continuing true }, core := s' },
          [.executed (h.core.pc x.core) text])) ∧
      (∀ s', ¬(check = true ∧ h.core.pc x.core ∈ x.controller.breakpoints) → h.core.step x.core = .halted s' →
        DebugHost.act h x = ({ x with controller := { x.controller with activity := .ended }, core := s' }, [])) ∧
      (∀ n, (∀ m, m < n → h.core.pc (DebugHost.acts h m x).1.core ∉ x.controller.breakpoints ∧
          ∃ s' text, h.core.step (DebugHost.acts h m x).1.core = .executed s' text) →
        (∃ c, (DebugHost.acts h n x).1.controller.activity = .continuing c) ∧ (DebugHost.acts h n x).1.input = x.input))

/-- `p <REG>` prints the register's value as a hexadecimal number, two digits for an 8-bit register and four for a 16-bit one, and does nothing else; HL is 16 bits, and names are read in either case. That no prefix is printed is the model's choice (log entry 14); the widths of all registers but HL are presumed (log entry 16). -/
def Obligations.RegistersArePrintedInHexadecimalAtTheirWidth : Prop :=
  (∀ (σ : Type) (h : DebugHost.Setup σ) (k : DebugHost.Controller) (s : σ),
    (∀ r, ∃ text, DebugHost.runCommand h k s (.printRegister (.byte r)) = (k, s, [.register (.byte r) text]) ∧
      text.length = 2 ∧ hexNumber? text = some (h.core.byteReg s r).toNat) ∧
    (∀ r, ∃ text, DebugHost.runCommand h k s (.printRegister (.word r)) = (k, s, [.register (.word r) text]) ∧
      text.length = 4 ∧ hexNumber? text = some (h.core.wordReg s r).toNat)) ∧
  (∀ m n : List Char, m.map DebugHost.lower = n.map DebugHost.lower → DebugHost.reg? m = DebugHost.reg? n) ∧
  (∀ p ∈ ([("A", .byte .a), ("F", .byte .f), ("B", .byte .b), ("C", .byte .c), ("D", .byte .d), ("E", .byte .e), ("H", .byte .h),
      ("L", .byte .l), ("SP", .word .sp), ("PC", .word .pc), ("BC", .word .bc), ("DE", .word .de), ("HL", .word .hl)] :
      List (String × DebugHost.RegName)),
    DebugHost.parse ("p ".toList ++ p.1.toList) = .ok (.printRegister p.2) ∧
    DebugHost.parse ("p ".toList ++ p.1.toList.map DebugHost.lower) = .ok (.printRegister p.2)) ∧
  DebugHost.parse "p hl".toList = .ok (.printRegister (.word .hl)) ∧ DebugHost.parse "p HL".toList = .ok (.printRegister (.word .hl)) ∧
  DebugHost.parse "p a".toList = .ok (.printRegister (.byte .a)) ∧ DebugHost.parse "p Pc".toList = .ok (.printRegister (.word .pc))

/-- `b <hex-addr>` toggles membership of its address in the breakpoint set and does nothing else; setting the same address twice leaves the set as it was; no other command changes the set and no action but by a toggle; it is empty at startup (R274). -/
def Obligations.BreakpointToggledTwiceIsRestored : Prop :=
  (∀ (a : Nat) (bps : List Nat),
    (a ∈ DebugHost.toggle a bps ↔ a ∉ bps) ∧
    (∀ x, x ≠ a → (x ∈ DebugHost.toggle a bps ↔ x ∈ bps)) ∧
    (∀ x, x ∈ DebugHost.toggle a (DebugHost.toggle a bps) ↔ x ∈ bps)) ∧
  (∀ (σ : Type) (h : DebugHost.Setup σ) (k : DebugHost.Controller) (s : σ),
    (∀ a, DebugHost.runCommand h k s (.setBreakpoint a) = ({ k with breakpoints := DebugHost.toggle a k.breakpoints }, s, [])) ∧
    (∀ c, (∀ a, c ≠ .setBreakpoint a) → (DebugHost.runCommand h k s c).1.breakpoints = k.breakpoints)) ∧
  (∀ (σ : Type) (h : DebugHost.Setup σ) (x : DebugHost.Session σ),
    (DebugHost.act h x).1.controller.breakpoints = x.controller.breakpoints ∨
    ∃ a, (DebugHost.act h x).1.controller.breakpoints = DebugHost.toggle a x.controller.breakpoints) ∧
  (∀ m, (DebugHost.Controller.start m).breakpoints = []) ∧
  DebugHost.parse "b 0150".toList = .ok (.setBreakpoint 0x0150) ∧
  DebugHost.toggle 0x0150 (DebugHost.toggle 0x0150 []) = []

/-- A malformed line prints one diagnostic, an empty line nothing, a failure of the input stream one error; none changes the controller or the core, and the loop is back at the prompt. A fault of the block in a step ends the loop, the core being as the fault left it. The inert empty line is the spec's decision D29; that a halted step prints nothing is the model's choice (log entry 14). -/
def Obligations.HostErrorsAreRecovered : Prop :=
  ∀ (σ : Type) (h : DebugHost.Setup σ) (k : DebugHost.Controller) (s : σ) (rest : List DebugHost.Input),
    (∀ line d, DebugHost.parse line = .error d → DebugHost.runLine h k s line = (k, s, [.diagnostic d])) ∧
    DebugHost.runLine h k s [] = (k, s, []) ∧
    (k.mode = .debugging → k.activity = .ready →
      (∀ line d, DebugHost.parse line = .error d → DebugHost.act h ⟨k, s, .line line :: rest⟩ = (⟨k, s, rest⟩, [.diagnostic d])) ∧
      DebugHost.act h ⟨k, s, .line [] :: rest⟩ = (⟨k, s, rest⟩, []) ∧
      DebugHost.act h ⟨k, s, .failure :: rest⟩ = (⟨k, s, rest⟩, [.inputError]) ∧
      (∀ s', h.core.step s = .halted s' → DebugHost.act h ⟨k, s, .line "s".toList :: rest⟩ =
        (⟨{ k with activity := .ended, lastCommand := some .step }, s', rest⟩, [])))
end

