-- ==== Sys2Proof/Laws/DebugHost.lean ====
section
/-! SUPPORT. What an action of the debugger host can do, by mode and activity, and how actions follow each other. -/

namespace Sys2Proof.DebugHost

variable {σ : Type} (h : Setup σ)

@[simp] theorem acts_zero (x : Session σ) : acts h 0 x = (x, []) := rfl
theorem acts_succ_fst (n : Nat) (x : Session σ) : (acts h (n + 1) x).1 = (acts h n (act h x).1).1 := rfl

@[simp] theorem after_controller (r : Controller × σ × List Output) (input : List Input) :
    (Session.after r input).1.controller = r.1 := rfl
@[simp] theorem after_core (r : Controller × σ × List Output) (input : List Input) : (Session.after r input).1.core = r.2.1 := rfl
@[simp] theorem after_input (r : Controller × σ × List Output) (input : List Input) : (Session.after r input).1.input = input := rfl

/-- Everything `execute` can do. -/
theorem execute_cases (k : Controller) (s : σ) :
    (∃ s' text, h.core.step s = .executed s' text ∧ execute h k s = (k, s', [.executed (h.core.pc s) text])) ∨
    (∃ s', h.core.step s = .halted s' ∧ execute h k s = (k.finish, s', [])) := by
  unfold execute
  cases hs : h.core.step s with
  | executed s' text => exact .inl ⟨s', text, rfl, rfl⟩
  | halted s' => exact .inr ⟨s', rfl, rfl⟩

theorem act_ended {x : Session σ} (ha : x.controller.activity = .ended) : act h x = (x, []) := by
  simp [act, ha]

theorem act_continuing {x : Session σ} {check : Bool} (hm : x.controller.mode = .debugging)
    (ha : x.controller.activity = .continuing check) :
    act h x = Session.after (continueOnce h x.controller x.core check) x.input := by
  simp [act, hm, ha]

theorem act_waiting {x : Session σ} (hm : x.controller.mode = .debugging) (ha : x.controller.activity = .ready)
    (hi : x.input = []) : act h x = (x, []) := by
  rw [act]; simp only [ha, hm, hi]

theorem act_input {x : Session σ} {i : Input} {rest : List Input} (hm : x.controller.mode = .debugging)
    (ha : x.controller.activity = .ready) (hi : x.input = i :: rest) :
    act h x = Session.after (takeInput h x.controller x.core i) rest := by
  rw [act]; simp only [ha, hm, hi]

/-- A digit printed reads back. -/
theorem hexDigit_hexChar : ∀ n, n < 16 → hexDigit? (hexChar n) = some n := by decide

end Sys2Proof.DebugHost
end

