-- ==== Sys2Proof/Laws/Decode.lean ====
section
/-! SUPPORT. The fields of a bus word and of an attribute table offset: packing then taking apart, and the reverse. -/

namespace Sys2Proof

/-- A property of a byte, checked at each of the 256 values. -/
theorem byte_forall {p : Byte → Prop} (h : ∀ k : Fin 256, p (BitVec.ofFin k)) : ∀ v, p v := fun v => h v.toFin

theorem busWord_bit (sp : Space) (d : Dir) (off v : Byte) (i : Nat) : (busWord sp d off v).getLsbD i =
    if i < 8 then v.getLsbD i else if i < 16 then off.getLsbD (i - 8) else if i < 17 then d.bit.getLsbD (i - 16) else sp.bit.getLsbD (i - 17) := by
  have h1 := BitVec.getLsbD_append (x := sp.bit ++ d.bit ++ off) (y := v) (i := i)
  have h2 := BitVec.getLsbD_append (x := sp.bit ++ d.bit) (y := off) (i := i - 8)
  have h3 := BitVec.getLsbD_append (x := sp.bit) (y := d.bit) (i := i - 8 - 8)
  rw [h3] at h2; rw [h2] at h1
  refine h1.trans ?_
  by_cases a : i < 8
  · simp [a]
  · by_cases b : i < 16
    · have : i - 8 < 8 := by omega
      simp [a, b, this]
    · have : ¬ i - 8 < 8 := by omega
      have e : i - 8 - 8 = i - 16 := by omega
      have e2 : i - 16 < 1 ↔ i < 17 := by omega
      have e3 : i - 16 - 1 = i - 17 := by omega
      simp only [a, b, this, if_false, e, e2, e3]

theorem busWord_fields (sp : Space) (d : Dir) (off v : Byte) :
    busSpace (busWord sp d off v) = sp ∧ busDir (busWord sp d off v) = d ∧ busOff (busWord sp d off v) = off ∧
    busData (busWord sp d off v) = v := by
  refine ⟨?_, ?_, ?_, ?_⟩
  · cases sp <;> simp [-BitVec.getLsbD_eq_getElem, busSpace, busWord_bit, Space.bit]
  · cases d <;> simp [-BitVec.getLsbD_eq_getElem, busDir, busWord_bit, Dir.bit]
  · apply BitVec.eq_of_getLsbD_eq; intro i hi
    have : 8 + i < 16 := by omega
    simp [-BitVec.getLsbD_eq_getElem, busOff, BitVec.getLsbD_extractLsb', hi, busWord_bit, this]
  · apply BitVec.eq_of_getLsbD_eq; intro i hi
    simp [-BitVec.getLsbD_eq_getElem, busData, BitVec.getLsbD_extractLsb', hi, busWord_bit]

theorem busWord_eta (w : BitVec 18) : busWord (busSpace w) (busDir w) (busOff w) (busData w) = w := by
  apply BitVec.eq_of_getLsbD_eq; intro i hi
  rw [busWord_bit]
  have hs : ∀ b j, ((if b then Space.oam else Space.io).bit).getLsbD j = (decide (j = 0) && b) := by
    intro b j; cases b <;> simp [Space.bit, -BitVec.getLsbD_eq_getElem] 
  have hd : ∀ b j, ((if b then Dir.write else Dir.read).bit).getLsbD j = (decide (j = 0) && b) := by
    intro b j; cases b <;> simp [Dir.bit, -BitVec.getLsbD_eq_getElem] 
  by_cases a : i < 8
  · simp [-BitVec.getLsbD_eq_getElem, a, busData]
  · by_cases b : i < 16
    · have : i - 8 < 8 := by omega
      have e : 8 + (i - 8) = i := by omega
      simp [-BitVec.getLsbD_eq_getElem, a, b, busOff, this, e]
    · by_cases c : i < 17
      · have : i = 16 := by omega
        subst this; simp [-BitVec.getLsbD_eq_getElem, busDir, hd]
      · have : i = 17 := by omega
        subst this; simp [-BitVec.getLsbD_eq_getElem, busSpace, hs]

theorem oamOffset_fields (n : BitVec 6) (f : SpriteField) : oamEntry (oamOffset n f) = n ∧ oamField (oamOffset n f) = f := by
  have : ∀ n : Fin 64, oamEntry (oamOffset (BitVec.ofFin n) f) = BitVec.ofFin n ∧ oamField (oamOffset (BitVec.ofFin n) f) = f := by
    cases f <;> decide
  exact this n.toFin

end Sys2Proof
end

