-- ==== Sys2Proof/Laws/State.lean ====
section
/-! SUPPORT. What each one-field update leaves in each field: one lemma per field per update, so that no later proof unfolds a record update. -/

namespace Sys2Proof.Machine

section Csr

variable (c : Csr)

@[simp] theorem Csr.ie_setIe (x : IrqFlags) : (c.setIe x).ie = x := rfl
@[simp] theorem Csr.pendingFlags_setIe (x : IrqFlags) : (c.setIe x).if_ = c.if_ := rfl
@[simp] theorem Csr.bank_setIe (x : IrqFlags) : (c.setIe x).bank = c.bank := rfl
@[simp] theorem Csr.btn_setIe (x : IrqFlags) : (c.setIe x).btn = c.btn := rfl
@[simp] theorem Csr.lcdc_setIe (x : IrqFlags) : (c.setIe x).lcdc = c.lcdc := rfl
@[simp] theorem Csr.scy_setIe (x : IrqFlags) : (c.setIe x).scy = c.scy := rfl
@[simp] theorem Csr.scx_setIe (x : IrqFlags) : (c.setIe x).scx = c.scx := rfl
@[simp] theorem Csr.ly_setIe (x : IrqFlags) : (c.setIe x).ly = c.ly := rfl
@[simp] theorem Csr.lyc_setIe (x : IrqFlags) : (c.setIe x).lyc = c.lyc := rfl
@[simp] theorem Csr.bgp_setIe (x : IrqFlags) : (c.setIe x).bgp = c.bgp := rfl
@[simp] theorem Csr.obp0_setIe (x : IrqFlags) : (c.setIe x).obp0 = c.obp0 := rfl
@[simp] theorem Csr.obp1_setIe (x : IrqFlags) : (c.setIe x).obp1 = c.obp1 := rfl
@[simp] theorem Csr.wy_setIe (x : IrqFlags) : (c.setIe x).wy = c.wy := rfl
@[simp] theorem Csr.wx_setIe (x : IrqFlags) : (c.setIe x).wx = c.wx := rfl
@[simp] theorem Csr.oam_setIe (x : IrqFlags) : (c.setIe x).oam = c.oam := rfl
@[simp] theorem Csr.boot_setIe (x : IrqFlags) : (c.setIe x).boot = c.boot := rfl
@[simp] theorem Csr.fault_setIe (x : IrqFlags) : (c.setIe x).fault = c.fault := rfl

@[simp] theorem Csr.ie_setIf (x : IrqFlags) : (c.setIf x).ie = c.ie := rfl
@[simp] theorem Csr.pendingFlags_setIf (x : IrqFlags) : (c.setIf x).if_ = x := rfl
@[simp] theorem Csr.bank_setIf (x : IrqFlags) : (c.setIf x).bank = c.bank := rfl
@[simp] theorem Csr.btn_setIf (x : IrqFlags) : (c.setIf x).btn = c.btn := rfl
@[simp] theorem Csr.lcdc_setIf (x : IrqFlags) : (c.setIf x).lcdc = c.lcdc := rfl
@[simp] theorem Csr.scy_setIf (x : IrqFlags) : (c.setIf x).scy = c.scy := rfl
@[simp] theorem Csr.scx_setIf (x : IrqFlags) : (c.setIf x).scx = c.scx := rfl
@[simp] theorem Csr.ly_setIf (x : IrqFlags) : (c.setIf x).ly = c.ly := rfl
@[simp] theorem Csr.lyc_setIf (x : IrqFlags) : (c.setIf x).lyc = c.lyc := rfl
@[simp] theorem Csr.bgp_setIf (x : IrqFlags) : (c.setIf x).bgp = c.bgp := rfl
@[simp] theorem Csr.obp0_setIf (x : IrqFlags) : (c.setIf x).obp0 = c.obp0 := rfl
@[simp] theorem Csr.obp1_setIf (x : IrqFlags) : (c.setIf x).obp1 = c.obp1 := rfl
@[simp] theorem Csr.wy_setIf (x : IrqFlags) : (c.setIf x).wy = c.wy := rfl
@[simp] theorem Csr.wx_setIf (x : IrqFlags) : (c.setIf x).wx = c.wx := rfl
@[simp] theorem Csr.oam_setIf (x : IrqFlags) : (c.setIf x).oam = c.oam := rfl
@[simp] theorem Csr.boot_setIf (x : IrqFlags) : (c.setIf x).boot = c.boot := rfl
@[simp] theorem Csr.fault_setIf (x : IrqFlags) : (c.setIf x).fault = c.fault := rfl

@[simp] theorem Csr.ie_setBank (x : Bank) : (c.setBank x).ie = c.ie := rfl
@[simp] theorem Csr.pendingFlags_setBank (x : Bank) : (c.setBank x).if_ = c.if_ := rfl
@[simp] theorem Csr.bank_setBank (x : Bank) : (c.setBank x).bank = x := rfl
@[simp] theorem Csr.btn_setBank (x : Bank) : (c.setBank x).btn = c.btn := rfl
@[simp] theorem Csr.lcdc_setBank (x : Bank) : (c.setBank x).lcdc = c.lcdc := rfl
@[simp] theorem Csr.scy_setBank (x : Bank) : (c.setBank x).scy = c.scy := rfl
@[simp] theorem Csr.scx_setBank (x : Bank) : (c.setBank x).scx = c.scx := rfl
@[simp] theorem Csr.ly_setBank (x : Bank) : (c.setBank x).ly = c.ly := rfl
@[simp] theorem Csr.lyc_setBank (x : Bank) : (c.setBank x).lyc = c.lyc := rfl
@[simp] theorem Csr.bgp_setBank (x : Bank) : (c.setBank x).bgp = c.bgp := rfl
@[simp] theorem Csr.obp0_setBank (x : Bank) : (c.setBank x).obp0 = c.obp0 := rfl
@[simp] theorem Csr.obp1_setBank (x : Bank) : (c.setBank x).obp1 = c.obp1 := rfl
@[simp] theorem Csr.wy_setBank (x : Bank) : (c.setBank x).wy = c.wy := rfl
@[simp] theorem Csr.wx_setBank (x : Bank) : (c.setBank x).wx = c.wx := rfl
@[simp] theorem Csr.oam_setBank (x : Bank) : (c.setBank x).oam = c.oam := rfl
@[simp] theorem Csr.boot_setBank (x : Bank) : (c.setBank x).boot = c.boot := rfl
@[simp] theorem Csr.fault_setBank (x : Bank) : (c.setBank x).fault = c.fault := rfl

@[simp] theorem Csr.ie_setBtn (x : Buttons) : (c.setBtn x).ie = c.ie := rfl
@[simp] theorem Csr.pendingFlags_setBtn (x : Buttons) : (c.setBtn x).if_ = c.if_ := rfl
@[simp] theorem Csr.bank_setBtn (x : Buttons) : (c.setBtn x).bank = c.bank := rfl
@[simp] theorem Csr.btn_setBtn (x : Buttons) : (c.setBtn x).btn = x := rfl
@[simp] theorem Csr.lcdc_setBtn (x : Buttons) : (c.setBtn x).lcdc = c.lcdc := rfl
@[simp] theorem Csr.scy_setBtn (x : Buttons) : (c.setBtn x).scy = c.scy := rfl
@[simp] theorem Csr.scx_setBtn (x : Buttons) : (c.setBtn x).scx = c.scx := rfl
@[simp] theorem Csr.ly_setBtn (x : Buttons) : (c.setBtn x).ly = c.ly := rfl
@[simp] theorem Csr.lyc_setBtn (x : Buttons) : (c.setBtn x).lyc = c.lyc := rfl
@[simp] theorem Csr.bgp_setBtn (x : Buttons) : (c.setBtn x).bgp = c.bgp := rfl
@[simp] theorem Csr.obp0_setBtn (x : Buttons) : (c.setBtn x).obp0 = c.obp0 := rfl
@[simp] theorem Csr.obp1_setBtn (x : Buttons) : (c.setBtn x).obp1 = c.obp1 := rfl
@[simp] theorem Csr.wy_setBtn (x : Buttons) : (c.setBtn x).wy = c.wy := rfl
@[simp] theorem Csr.wx_setBtn (x : Buttons) : (c.setBtn x).wx = c.wx := rfl
@[simp] theorem Csr.oam_setBtn (x : Buttons) : (c.setBtn x).oam = c.oam := rfl
@[simp] theorem Csr.boot_setBtn (x : Buttons) : (c.setBtn x).boot = c.boot := rfl
@[simp] theorem Csr.fault_setBtn (x : Buttons) : (c.setBtn x).fault = c.fault := rfl

@[simp] theorem Csr.ie_setLcdc (x : LcdFlags) : (c.setLcdc x).ie = c.ie := rfl
@[simp] theorem Csr.pendingFlags_setLcdc (x : LcdFlags) : (c.setLcdc x).if_ = c.if_ := rfl
@[simp] theorem Csr.bank_setLcdc (x : LcdFlags) : (c.setLcdc x).bank = c.bank := rfl
@[simp] theorem Csr.btn_setLcdc (x : LcdFlags) : (c.setLcdc x).btn = c.btn := rfl
@[simp] theorem Csr.lcdc_setLcdc (x : LcdFlags) : (c.setLcdc x).lcdc = x := rfl
@[simp] theorem Csr.scy_setLcdc (x : LcdFlags) : (c.setLcdc x).scy = c.scy := rfl
@[simp] theorem Csr.scx_setLcdc (x : LcdFlags) : (c.setLcdc x).scx = c.scx := rfl
@[simp] theorem Csr.ly_setLcdc (x : LcdFlags) : (c.setLcdc x).ly = c.ly := rfl
@[simp] theorem Csr.lyc_setLcdc (x : LcdFlags) : (c.setLcdc x).lyc = c.lyc := rfl
@[simp] theorem Csr.bgp_setLcdc (x : LcdFlags) : (c.setLcdc x).bgp = c.bgp := rfl
@[simp] theorem Csr.obp0_setLcdc (x : LcdFlags) : (c.setLcdc x).obp0 = c.obp0 := rfl
@[simp] theorem Csr.obp1_setLcdc (x : LcdFlags) : (c.setLcdc x).obp1 = c.obp1 := rfl
@[simp] theorem Csr.wy_setLcdc (x : LcdFlags) : (c.setLcdc x).wy = c.wy := rfl
@[simp] theorem Csr.wx_setLcdc (x : LcdFlags) : (c.setLcdc x).wx = c.wx := rfl
@[simp] theorem Csr.oam_setLcdc (x : LcdFlags) : (c.setLcdc x).oam = c.oam := rfl
@[simp] theorem Csr.boot_setLcdc (x : LcdFlags) : (c.setLcdc x).boot = c.boot := rfl
@[simp] theorem Csr.fault_setLcdc (x : LcdFlags) : (c.setLcdc x).fault = c.fault := rfl

@[simp] theorem Csr.ie_setScy (x : Byte) : (c.setScy x).ie = c.ie := rfl
@[simp] theorem Csr.pendingFlags_setScy (x : Byte) : (c.setScy x).if_ = c.if_ := rfl
@[simp] theorem Csr.bank_setScy (x : Byte) : (c.setScy x).bank = c.bank := rfl
@[simp] theorem Csr.btn_setScy (x : Byte) : (c.setScy x).btn = c.btn := rfl
@[simp] theorem Csr.lcdc_setScy (x : Byte) : (c.setScy x).lcdc = c.lcdc := rfl
@[simp] theorem Csr.scy_setScy (x : Byte) : (c.setScy x).scy = x := rfl
@[simp] theorem Csr.scx_setScy (x : Byte) : (c.setScy x).scx = c.scx := rfl
@[simp] theorem Csr.ly_setScy (x : Byte) : (c.setScy x).ly = c.ly := rfl
@[simp] theorem Csr.lyc_setScy (x : Byte) : (c.setScy x).lyc = c.lyc := rfl
@[simp] theorem Csr.bgp_setScy (x : Byte) : (c.setScy x).bgp = c.bgp := rfl
@[simp] theorem Csr.obp0_setScy (x : Byte) : (c.setScy x).obp0 = c.obp0 := rfl
@[simp] theorem Csr.obp1_setScy (x : Byte) : (c.setScy x).obp1 = c.obp1 := rfl
@[simp] theorem Csr.wy_setScy (x : Byte) : (c.setScy x).wy = c.wy := rfl
@[simp] theorem Csr.wx_setScy (x : Byte) : (c.setScy x).wx = c.wx := rfl
@[simp] theorem Csr.oam_setScy (x : Byte) : (c.setScy x).oam = c.oam := rfl
@[simp] theorem Csr.boot_setScy (x : Byte) : (c.setScy x).boot = c.boot := rfl
@[simp] theorem Csr.fault_setScy (x : Byte) : (c.setScy x).fault = c.fault := rfl

@[simp] theorem Csr.ie_setScx (x : Byte) : (c.setScx x).ie = c.ie := rfl
@[simp] theorem Csr.pendingFlags_setScx (x : Byte) : (c.setScx x).if_ = c.if_ := rfl
@[simp] theorem Csr.bank_setScx (x : Byte) : (c.setScx x).bank = c.bank := rfl
@[simp] theorem Csr.btn_setScx (x : Byte) : (c.setScx x).btn = c.btn := rfl
@[simp] theorem Csr.lcdc_setScx (x : Byte) : (c.setScx x).lcdc = c.lcdc := rfl
@[simp] theorem Csr.scy_setScx (x : Byte) : (c.setScx x).scy = c.scy := rfl
@[simp] theorem Csr.scx_setScx (x : Byte) : (c.setScx x).scx = x := rfl
@[simp] theorem Csr.ly_setScx (x : Byte) : (c.setScx x).ly = c.ly := rfl
@[simp] theorem Csr.lyc_setScx (x : Byte) : (c.setScx x).lyc = c.lyc := rfl
@[simp] theorem Csr.bgp_setScx (x : Byte) : (c.setScx x).bgp = c.bgp := rfl
@[simp] theorem Csr.obp0_setScx (x : Byte) : (c.setScx x).obp0 = c.obp0 := rfl
@[simp] theorem Csr.obp1_setScx (x : Byte) : (c.setScx x).obp1 = c.obp1 := rfl
@[simp] theorem Csr.wy_setScx (x : Byte) : (c.setScx x).wy = c.wy := rfl
@[simp] theorem Csr.wx_setScx (x : Byte) : (c.setScx x).wx = c.wx := rfl
@[simp] theorem Csr.oam_setScx (x : Byte) : (c.setScx x).oam = c.oam := rfl
@[simp] theorem Csr.boot_setScx (x : Byte) : (c.setScx x).boot = c.boot := rfl
@[simp] theorem Csr.fault_setScx (x : Byte) : (c.setScx x).fault = c.fault := rfl

@[simp] theorem Csr.ie_setLy (x : Byte) : (c.setLy x).ie = c.ie := rfl
@[simp] theorem Csr.pendingFlags_setLy (x : Byte) : (c.setLy x).if_ = c.if_ := rfl
@[simp] theorem Csr.bank_setLy (x : Byte) : (c.setLy x).bank = c.bank := rfl
@[simp] theorem Csr.btn_setLy (x : Byte) : (c.setLy x).btn = c.btn := rfl
@[simp] theorem Csr.lcdc_setLy (x : Byte) : (c.setLy x).lcdc = c.lcdc := rfl
@[simp] theorem Csr.scy_setLy (x : Byte) : (c.setLy x).scy = c.scy := rfl
@[simp] theorem Csr.scx_setLy (x : Byte) : (c.setLy x).scx = c.scx := rfl
@[simp] theorem Csr.ly_setLy (x : Byte) : (c.setLy x).ly = x := rfl
@[simp] theorem Csr.lyc_setLy (x : Byte) : (c.setLy x).lyc = c.lyc := rfl
@[simp] theorem Csr.bgp_setLy (x : Byte) : (c.setLy x).bgp = c.bgp := rfl
@[simp] theorem Csr.obp0_setLy (x : Byte) : (c.setLy x).obp0 = c.obp0 := rfl
@[simp] theorem Csr.obp1_setLy (x : Byte) : (c.setLy x).obp1 = c.obp1 := rfl
@[simp] theorem Csr.wy_setLy (x : Byte) : (c.setLy x).wy = c.wy := rfl
@[simp] theorem Csr.wx_setLy (x : Byte) : (c.setLy x).wx = c.wx := rfl
@[simp] theorem Csr.oam_setLy (x : Byte) : (c.setLy x).oam = c.oam := rfl
@[simp] theorem Csr.boot_setLy (x : Byte) : (c.setLy x).boot = c.boot := rfl
@[simp] theorem Csr.fault_setLy (x : Byte) : (c.setLy x).fault = c.fault := rfl

@[simp] theorem Csr.ie_setLyc (x : Byte) : (c.setLyc x).ie = c.ie := rfl
@[simp] theorem Csr.pendingFlags_setLyc (x : Byte) : (c.setLyc x).if_ = c.if_ := rfl
@[simp] theorem Csr.bank_setLyc (x : Byte) : (c.setLyc x).bank = c.bank := rfl
@[simp] theorem Csr.btn_setLyc (x : Byte) : (c.setLyc x).btn = c.btn := rfl
@[simp] theorem Csr.lcdc_setLyc (x : Byte) : (c.setLyc x).lcdc = c.lcdc := rfl
@[simp] theorem Csr.scy_setLyc (x : Byte) : (c.setLyc x).scy = c.scy := rfl
@[simp] theorem Csr.scx_setLyc (x : Byte) : (c.setLyc x).scx = c.scx := rfl
@[simp] theorem Csr.ly_setLyc (x : Byte) : (c.setLyc x).ly = c.ly := rfl
@[simp] theorem Csr.lyc_setLyc (x : Byte) : (c.setLyc x).lyc = x := rfl
@[simp] theorem Csr.bgp_setLyc (x : Byte) : (c.setLyc x).bgp = c.bgp := rfl
@[simp] theorem Csr.obp0_setLyc (x : Byte) : (c.setLyc x).obp0 = c.obp0 := rfl
@[simp] theorem Csr.obp1_setLyc (x : Byte) : (c.setLyc x).obp1 = c.obp1 := rfl
@[simp] theorem Csr.wy_setLyc (x : Byte) : (c.setLyc x).wy = c.wy := rfl
@[simp] theorem Csr.wx_setLyc (x : Byte) : (c.setLyc x).wx = c.wx := rfl
@[simp] theorem Csr.oam_setLyc (x : Byte) : (c.setLyc x).oam = c.oam := rfl
@[simp] theorem Csr.boot_setLyc (x : Byte) : (c.setLyc x).boot = c.boot := rfl
@[simp] theorem Csr.fault_setLyc (x : Byte) : (c.setLyc x).fault = c.fault := rfl

@[simp] theorem Csr.ie_setBgp (x : Palette) : (c.setBgp x).ie = c.ie := rfl
@[simp] theorem Csr.pendingFlags_setBgp (x : Palette) : (c.setBgp x).if_ = c.if_ := rfl
@[simp] theorem Csr.bank_setBgp (x : Palette) : (c.setBgp x).bank = c.bank := rfl
@[simp] theorem Csr.btn_setBgp (x : Palette) : (c.setBgp x).btn = c.btn := rfl
@[simp] theorem Csr.lcdc_setBgp (x : Palette) : (c.setBgp x).lcdc = c.lcdc := rfl
@[simp] theorem Csr.scy_setBgp (x : Palette) : (c.setBgp x).scy = c.scy := rfl
@[simp] theorem Csr.scx_setBgp (x : Palette) : (c.setBgp x).scx = c.scx := rfl
@[simp] theorem Csr.ly_setBgp (x : Palette) : (c.setBgp x).ly = c.ly := rfl
@[simp] theorem Csr.lyc_setBgp (x : Palette) : (c.setBgp x).lyc = c.lyc := rfl
@[simp] theorem Csr.bgp_setBgp (x : Palette) : (c.setBgp x).bgp = x := rfl
@[simp] theorem Csr.obp0_setBgp (x : Palette) : (c.setBgp x).obp0 = c.obp0 := rfl
@[simp] theorem Csr.obp1_setBgp (x : Palette) : (c.setBgp x).obp1 = c.obp1 := rfl
@[simp] theorem Csr.wy_setBgp (x : Palette) : (c.setBgp x).wy = c.wy := rfl
@[simp] theorem Csr.wx_setBgp (x : Palette) : (c.setBgp x).wx = c.wx := rfl
@[simp] theorem Csr.oam_setBgp (x : Palette) : (c.setBgp x).oam = c.oam := rfl
@[simp] theorem Csr.boot_setBgp (x : Palette) : (c.setBgp x).boot = c.boot := rfl
@[simp] theorem Csr.fault_setBgp (x : Palette) : (c.setBgp x).fault = c.fault := rfl

@[simp] theorem Csr.ie_setObp0 (x : Palette) : (c.setObp0 x).ie = c.ie := rfl
@[simp] theorem Csr.pendingFlags_setObp0 (x : Palette) : (c.setObp0 x).if_ = c.if_ := rfl
@[simp] theorem Csr.bank_setObp0 (x : Palette) : (c.setObp0 x).bank = c.bank := rfl
@[simp] theorem Csr.btn_setObp0 (x : Palette) : (c.setObp0 x).btn = c.btn := rfl
@[simp] theorem Csr.lcdc_setObp0 (x : Palette) : (c.setObp0 x).lcdc = c.lcdc := rfl
@[simp] theorem Csr.scy_setObp0 (x : Palette) : (c.setObp0 x).scy = c.scy := rfl
@[simp] theorem Csr.scx_setObp0 (x : Palette) : (c.setObp0 x).scx = c.scx := rfl
@[simp] theorem Csr.ly_setObp0 (x : Palette) : (c.setObp0 x).ly = c.ly := rfl
@[simp] theorem Csr.lyc_setObp0 (x : Palette) : (c.setObp0 x).lyc = c.lyc := rfl
@[simp] theorem Csr.bgp_setObp0 (x : Palette) : (c.setObp0 x).bgp = c.bgp := rfl
@[simp] theorem Csr.obp0_setObp0 (x : Palette) : (c.setObp0 x).obp0 = x := rfl
@[simp] theorem Csr.obp1_setObp0 (x : Palette) : (c.setObp0 x).obp1 = c.obp1 := rfl
@[simp] theorem Csr.wy_setObp0 (x : Palette) : (c.setObp0 x).wy = c.wy := rfl
@[simp] theorem Csr.wx_setObp0 (x : Palette) : (c.setObp0 x).wx = c.wx := rfl
@[simp] theorem Csr.oam_setObp0 (x : Palette) : (c.setObp0 x).oam = c.oam := rfl
@[simp] theorem Csr.boot_setObp0 (x : Palette) : (c.setObp0 x).boot = c.boot := rfl
@[simp] theorem Csr.fault_setObp0 (x : Palette) : (c.setObp0 x).fault = c.fault := rfl

@[simp] theorem Csr.ie_setObp1 (x : Palette) : (c.setObp1 x).ie = c.ie := rfl
@[simp] theorem Csr.pendingFlags_setObp1 (x : Palette) : (c.setObp1 x).if_ = c.if_ := rfl
@[simp] theorem Csr.bank_setObp1 (x : Palette) : (c.setObp1 x).bank = c.bank := rfl
@[simp] theorem Csr.btn_setObp1 (x : Palette) : (c.setObp1 x).btn = c.btn := rfl
@[simp] theorem Csr.lcdc_setObp1 (x : Palette) : (c.setObp1 x).lcdc = c.lcdc := rfl
@[simp] theorem Csr.scy_setObp1 (x : Palette) : (c.setObp1 x).scy = c.scy := rfl
@[simp] theorem Csr.scx_setObp1 (x : Palette) : (c.setObp1 x).scx = c.scx := rfl
@[simp] theorem Csr.ly_setObp1 (x : Palette) : (c.setObp1 x).ly = c.ly := rfl
@[simp] theorem Csr.lyc_setObp1 (x : Palette) : (c.setObp1 x).lyc = c.lyc := rfl
@[simp] theorem Csr.bgp_setObp1 (x : Palette) : (c.setObp1 x).bgp = c.bgp := rfl
@[simp] theorem Csr.obp0_setObp1 (x : Palette) : (c.setObp1 x).obp0 = c.obp0 := rfl
@[simp] theorem Csr.obp1_setObp1 (x : Palette) : (c.setObp1 x).obp1 = x := rfl
@[simp] theorem Csr.wy_setObp1 (x : Palette) : (c.setObp1 x).wy = c.wy := rfl
@[simp] theorem Csr.wx_setObp1 (x : Palette) : (c.setObp1 x).wx = c.wx := rfl
@[simp] theorem Csr.oam_setObp1 (x : Palette) : (c.setObp1 x).oam = c.oam := rfl
@[simp] theorem Csr.boot_setObp1 (x : Palette) : (c.setObp1 x).boot = c.boot := rfl
@[simp] theorem Csr.fault_setObp1 (x : Palette) : (c.setObp1 x).fault = c.fault := rfl

@[simp] theorem Csr.ie_setWy (x : Byte) : (c.setWy x).ie = c.ie := rfl
@[simp] theorem Csr.pendingFlags_setWy (x : Byte) : (c.setWy x).if_ = c.if_ := rfl
@[simp] theorem Csr.bank_setWy (x : Byte) : (c.setWy x).bank = c.bank := rfl
@[simp] theorem Csr.btn_setWy (x : Byte) : (c.setWy x).btn = c.btn := rfl
@[simp] theorem Csr.lcdc_setWy (x : Byte) : (c.setWy x).lcdc = c.lcdc := rfl
@[simp] theorem Csr.scy_setWy (x : Byte) : (c.setWy x).scy = c.scy := rfl
@[simp] theorem Csr.scx_setWy (x : Byte) : (c.setWy x).scx = c.scx := rfl
@[simp] theorem Csr.ly_setWy (x : Byte) : (c.setWy x).ly = c.ly := rfl
@[simp] theorem Csr.lyc_setWy (x : Byte) : (c.setWy x).lyc = c.lyc := rfl
@[simp] theorem Csr.bgp_setWy (x : Byte) : (c.setWy x).bgp = c.bgp := rfl
@[simp] theorem Csr.obp0_setWy (x : Byte) : (c.setWy x).obp0 = c.obp0 := rfl
@[simp] theorem Csr.obp1_setWy (x : Byte) : (c.setWy x).obp1 = c.obp1 := rfl
@[simp] theorem Csr.wy_setWy (x : Byte) : (c.setWy x).wy = x := rfl
@[simp] theorem Csr.wx_setWy (x : Byte) : (c.setWy x).wx = c.wx := rfl
@[simp] theorem Csr.oam_setWy (x : Byte) : (c.setWy x).oam = c.oam := rfl
@[simp] theorem Csr.boot_setWy (x : Byte) : (c.setWy x).boot = c.boot := rfl
@[simp] theorem Csr.fault_setWy (x : Byte) : (c.setWy x).fault = c.fault := rfl

@[simp] theorem Csr.ie_setWx (x : Byte) : (c.setWx x).ie = c.ie := rfl
@[simp] theorem Csr.pendingFlags_setWx (x : Byte) : (c.setWx x).if_ = c.if_ := rfl
@[simp] theorem Csr.bank_setWx (x : Byte) : (c.setWx x).bank = c.bank := rfl
@[simp] theorem Csr.btn_setWx (x : Byte) : (c.setWx x).btn = c.btn := rfl
@[simp] theorem Csr.lcdc_setWx (x : Byte) : (c.setWx x).lcdc = c.lcdc := rfl
@[simp] theorem Csr.scy_setWx (x : Byte) : (c.setWx x).scy = c.scy := rfl
@[simp] theorem Csr.scx_setWx (x : Byte) : (c.setWx x).scx = c.scx := rfl
@[simp] theorem Csr.ly_setWx (x : Byte) : (c.setWx x).ly = c.ly := rfl
@[simp] theorem Csr.lyc_setWx (x : Byte) : (c.setWx x).lyc = c.lyc := rfl
@[simp] theorem Csr.bgp_setWx (x : Byte) : (c.setWx x).bgp = c.bgp := rfl
@[simp] theorem Csr.obp0_setWx (x : Byte) : (c.setWx x).obp0 = c.obp0 := rfl
@[simp] theorem Csr.obp1_setWx (x : Byte) : (c.setWx x).obp1 = c.obp1 := rfl
@[simp] theorem Csr.wy_setWx (x : Byte) : (c.setWx x).wy = c.wy := rfl
@[simp] theorem Csr.wx_setWx (x : Byte) : (c.setWx x).wx = x := rfl
@[simp] theorem Csr.oam_setWx (x : Byte) : (c.setWx x).oam = c.oam := rfl
@[simp] theorem Csr.boot_setWx (x : Byte) : (c.setWx x).boot = c.boot := rfl
@[simp] theorem Csr.fault_setWx (x : Byte) : (c.setWx x).fault = c.fault := rfl

@[simp] theorem Csr.ie_setOam (x : Vector SpriteEntry 40) : (c.setOam x).ie = c.ie := rfl
@[simp] theorem Csr.pendingFlags_setOam (x : Vector SpriteEntry 40) : (c.setOam x).if_ = c.if_ := rfl
@[simp] theorem Csr.bank_setOam (x : Vector SpriteEntry 40) : (c.setOam x).bank = c.bank := rfl
@[simp] theorem Csr.btn_setOam (x : Vector SpriteEntry 40) : (c.setOam x).btn = c.btn := rfl
@[simp] theorem Csr.lcdc_setOam (x : Vector SpriteEntry 40) : (c.setOam x).lcdc = c.lcdc := rfl
@[simp] theorem Csr.scy_setOam (x : Vector SpriteEntry 40) : (c.setOam x).scy = c.scy := rfl
@[simp] theorem Csr.scx_setOam (x : Vector SpriteEntry 40) : (c.setOam x).scx = c.scx := rfl
@[simp] theorem Csr.ly_setOam (x : Vector SpriteEntry 40) : (c.setOam x).ly = c.ly := rfl
@[simp] theorem Csr.lyc_setOam (x : Vector SpriteEntry 40) : (c.setOam x).lyc = c.lyc := rfl
@[simp] theorem Csr.bgp_setOam (x : Vector SpriteEntry 40) : (c.setOam x).bgp = c.bgp := rfl
@[simp] theorem Csr.obp0_setOam (x : Vector SpriteEntry 40) : (c.setOam x).obp0 = c.obp0 := rfl
@[simp] theorem Csr.obp1_setOam (x : Vector SpriteEntry 40) : (c.setOam x).obp1 = c.obp1 := rfl
@[simp] theorem Csr.wy_setOam (x : Vector SpriteEntry 40) : (c.setOam x).wy = c.wy := rfl
@[simp] theorem Csr.wx_setOam (x : Vector SpriteEntry 40) : (c.setOam x).wx = c.wx := rfl
@[simp] theorem Csr.oam_setOam (x : Vector SpriteEntry 40) : (c.setOam x).oam = x := rfl
@[simp] theorem Csr.boot_setOam (x : Vector SpriteEntry 40) : (c.setOam x).boot = c.boot := rfl
@[simp] theorem Csr.fault_setOam (x : Vector SpriteEntry 40) : (c.setOam x).fault = c.fault := rfl

@[simp] theorem Csr.ie_setBoot (x : Bool) : (c.setBoot x).ie = c.ie := rfl
@[simp] theorem Csr.pendingFlags_setBoot (x : Bool) : (c.setBoot x).if_ = c.if_ := rfl
@[simp] theorem Csr.bank_setBoot (x : Bool) : (c.setBoot x).bank = c.bank := rfl
@[simp] theorem Csr.btn_setBoot (x : Bool) : (c.setBoot x).btn = c.btn := rfl
@[simp] theorem Csr.lcdc_setBoot (x : Bool) : (c.setBoot x).lcdc = c.lcdc := rfl
@[simp] theorem Csr.scy_setBoot (x : Bool) : (c.setBoot x).scy = c.scy := rfl
@[simp] theorem Csr.scx_setBoot (x : Bool) : (c.setBoot x).scx = c.scx := rfl
@[simp] theorem Csr.ly_setBoot (x : Bool) : (c.setBoot x).ly = c.ly := rfl
@[simp] theorem Csr.lyc_setBoot (x : Bool) : (c.setBoot x).lyc = c.lyc := rfl
@[simp] theorem Csr.bgp_setBoot (x : Bool) : (c.setBoot x).bgp = c.bgp := rfl
@[simp] theorem Csr.obp0_setBoot (x : Bool) : (c.setBoot x).obp0 = c.obp0 := rfl
@[simp] theorem Csr.obp1_setBoot (x : Bool) : (c.setBoot x).obp1 = c.obp1 := rfl
@[simp] theorem Csr.wy_setBoot (x : Bool) : (c.setBoot x).wy = c.wy := rfl
@[simp] theorem Csr.wx_setBoot (x : Bool) : (c.setBoot x).wx = c.wx := rfl
@[simp] theorem Csr.oam_setBoot (x : Bool) : (c.setBoot x).oam = c.oam := rfl
@[simp] theorem Csr.boot_setBoot (x : Bool) : (c.setBoot x).boot = x := rfl
@[simp] theorem Csr.fault_setBoot (x : Bool) : (c.setBoot x).fault = c.fault := rfl

@[simp] theorem Csr.ie_setFault (x : Option FaultRecord) : (c.setFault x).ie = c.ie := rfl
@[simp] theorem Csr.pendingFlags_setFault (x : Option FaultRecord) : (c.setFault x).if_ = c.if_ := rfl
@[simp] theorem Csr.bank_setFault (x : Option FaultRecord) : (c.setFault x).bank = c.bank := rfl
@[simp] theorem Csr.btn_setFault (x : Option FaultRecord) : (c.setFault x).btn = c.btn := rfl
@[simp] theorem Csr.lcdc_setFault (x : Option FaultRecord) : (c.setFault x).lcdc = c.lcdc := rfl
@[simp] theorem Csr.scy_setFault (x : Option FaultRecord) : (c.setFault x).scy = c.scy := rfl
@[simp] theorem Csr.scx_setFault (x : Option FaultRecord) : (c.setFault x).scx = c.scx := rfl
@[simp] theorem Csr.ly_setFault (x : Option FaultRecord) : (c.setFault x).ly = c.ly := rfl
@[simp] theorem Csr.lyc_setFault (x : Option FaultRecord) : (c.setFault x).lyc = c.lyc := rfl
@[simp] theorem Csr.bgp_setFault (x : Option FaultRecord) : (c.setFault x).bgp = c.bgp := rfl
@[simp] theorem Csr.obp0_setFault (x : Option FaultRecord) : (c.setFault x).obp0 = c.obp0 := rfl
@[simp] theorem Csr.obp1_setFault (x : Option FaultRecord) : (c.setFault x).obp1 = c.obp1 := rfl
@[simp] theorem Csr.wy_setFault (x : Option FaultRecord) : (c.setFault x).wy = c.wy := rfl
@[simp] theorem Csr.wx_setFault (x : Option FaultRecord) : (c.setFault x).wx = c.wx := rfl
@[simp] theorem Csr.oam_setFault (x : Option FaultRecord) : (c.setFault x).oam = c.oam := rfl
@[simp] theorem Csr.boot_setFault (x : Option FaultRecord) : (c.setFault x).boot = c.boot := rfl
@[simp] theorem Csr.fault_setFault (x : Option FaultRecord) : (c.setFault x).fault = x := rfl

end Csr

section State

variable (s : State)

@[simp] theorem State.csr_setCsr (x : Csr) : (s.setCsr x).csr = x := rfl
@[simp] theorem State.pending_setCsr (x : Csr) : (s.setCsr x).pending = s.pending := rfl
@[simp] theorem State.rdata_setCsr (x : Csr) : (s.setCsr x).rdata = s.rdata := rfl

@[simp] theorem State.csr_setPending (x : List OpWord) : (s.setPending x).csr = s.csr := rfl
@[simp] theorem State.pending_setPending (x : List OpWord) : (s.setPending x).pending = x := rfl
@[simp] theorem State.rdata_setPending (x : List OpWord) : (s.setPending x).rdata = s.rdata := rfl

@[simp] theorem State.csr_setRdata (x : Option Byte) : (s.setRdata x).csr = s.csr := rfl
@[simp] theorem State.pending_setRdata (x : Option Byte) : (s.setRdata x).pending = s.pending := rfl
@[simp] theorem State.rdata_setRdata (x : Option Byte) : (s.setRdata x).rdata = x := rfl

end State

end Sys2Proof.Machine
end

