-- ==== Sys2Proof/Laws/Ops.lean ====
section
/-! SUPPORT. One lemma per shared operation, saying everything it can do. -/

namespace Sys2Proof.Machine

/-! ## Halting -/

theorem State.halted_iff (s : State) : s.halted = true ↔ s.csr.fault ≠ none := by
  cases h : s.csr.fault <;> simp [State.halted, h]

theorem State.halted_eq_false_iff (s : State) : s.halted = false ↔ s.csr.fault = none := by
  cases h : s.csr.fault <;> simp [State.halted, h]

@[simp] theorem takeFault_csr (r : FaultRecord) (s : State) : (takeFault r s).csr = s.csr.setFault (some r) := rfl
@[simp] theorem takeFault_pending (r : FaultRecord) (s : State) : (takeFault r s).pending = s.pending := rfl
@[simp] theorem takeFault_rdata (r : FaultRecord) (s : State) : (takeFault r s).rdata = none := rfl
@[simp] theorem notPerformed_csr (s : State) : (notPerformed s).csr = s.csr := rfl
@[simp] theorem notPerformed_pending (s : State) : (notPerformed s).pending = s.pending := rfl
@[simp] theorem notPerformed_rdata (s : State) : (notPerformed s).rdata = none := rfl

/-! ## Performing -/

theorem perform_running {s : State} (h : s.csr.fault = none) (e : Effect) : perform e s = .next (e.apply s) := by
  simp [perform, (State.halted_eq_false_iff s).2 h]

theorem perform_halted {s : State} {r : FaultRecord} (h : s.csr.fault = some r) (e : Effect) :
    perform e s = .next (notPerformed s) := by
  have hs : s.halted = true := (State.halted_iff s).2 (by simp [h])
  simp [perform, hs]

/-- Everything `perform` can do: not performed while halted; else a byte returned, a block left, or a fault taken. -/
theorem perform_cases {e : Effect} {s t : State} (h : perform e s = .next t) :
    (s.csr.fault ≠ none ∧ t = notPerformed s) ∨
    (s.csr.fault = none ∧
      ((∃ v, e = .returns v ∧ t = s.setRdata (some v)) ∨
       (∃ c, e = .writes c ∧ t = (s.setCsr c).setRdata none) ∨
       (∃ r, e = .raises r ∧ t = takeFault r s))) := by
  cases hf : s.csr.fault with
  | some r =>
    rw [perform_halted hf] at h
    injection h with h
    exact .inl ⟨by simp, h.symm⟩
  | none =>
    rw [perform_running hf] at h
    injection h with h
    refine .inr ⟨rfl, ?_⟩
    cases e with
    | returns v => exact .inl ⟨v, rfl, h.symm⟩
    | writes c => exact .inr (.inl ⟨c, rfl, h.symm⟩)
    | raises r => exact .inr (.inr ⟨r, rfl, h.symm⟩)

/-- `perform` never touches what the agents have presented. -/
theorem perform_pending {e : Effect} {s t : State} (h : perform e s = .next t) : t.pending = s.pending := by
  obtain ⟨-, rfl⟩ | ⟨-, ⟨v, -, rfl⟩ | ⟨c, -, rfl⟩ | ⟨r, -, rfl⟩⟩ := perform_cases h <;> rfl

/-! ## Fetching -/

@[simp] theorem State.fetch_nil (s : State) (h : s.pending = []) : s.fetch = none := by simp [State.fetch, h]

theorem State.fetch_cons {s : State} {w : OpWord} {ws : List OpWord} (h : s.pending = w :: ws) :
    s.fetch = some (w, s.setPending ws) := by simp [State.fetch, h]

@[simp] theorem State.fetch_present (s : State) (w : OpWord) : (s.present w).fetch = some (w, s) := rfl

/-! ## The attribute table -/

theorem oamRead_of_lt {n : BitVec 6} (h : n.toNat < 40) (f : SpriteField) (c : Csr) :
    oamRead n f c = .returns (readField f c.oam[n.toNat]) := by simp [oamRead, h]

theorem oamRead_of_ge {n : BitVec 6} (h : 40 ≤ n.toNat) (f : SpriteField) (c : Csr) :
    oamRead n f c = oamReadFault (oamOffset n f) := by simp [oamRead, Nat.not_lt.2 h]

theorem oamWrite_of_lt {n : BitVec 6} (h : n.toNat < 40) (f : SpriteField) (v : Byte) (c : Csr) :
    oamWrite n f v c = .writes (c.setOam (c.oam.set n.toNat (writeField f v c.oam[n.toNat]) h)) := by
  simp [oamWrite, h]

theorem oamWrite_of_ge {n : BitVec 6} (h : 40 ≤ n.toNat) (f : SpriteField) (v : Byte) (c : Csr) :
    oamWrite n f v c = oamWriteFault (oamOffset n f) v := by simp [oamWrite, Nat.not_lt.2 h]

end Sys2Proof.Machine
end

