-- ==== Sys2Proof/Laws/Effect.lean ====
section
/-! SUPPORT. Once for all 48 operations: `exec` performs one effect, a function of the operation and the block alone. -/

namespace Sys2Proof.Machine

/-- What each operation does to a running block. -/
def effect : Instr → Csr → Effect
  | .rdP1, c => .returns (packJoypad c.bank c.btn)
  | .wrP1 v, c => .writes (c.setBank (selectBank v c.bank))
  | .rdIf, c => .returns (pack5 c.if_)
  | .wrIf v, c => .writes (c.setIf (unpack5 v))
  | .rdLcdc, c => .returns (packLcdc c.lcdc)
  | .wrLcdc v, c => .writes (c.setLcdc (unpackLcdc v))
  | .rdPpu41, _ => ioReadFault .unimplementedPpuRegister 0x41
  | .wrPpu41 v, _ => ioWriteFault .unimplementedPpuRegister 0x41 v
  | .rdScy, c => .returns c.scy
  | .wrScy v, c => .writes (c.setScy v)
  | .rdScx, c => .returns c.scx
  | .wrScx v, c => .writes (c.setScx v)
  | .rdLy, c => .returns c.ly
  | .wrLy v, _ => ioWriteFault .readOnlyWrite 0x44 v
  | .rdLyc, c => .returns c.lyc
  | .wrLyc v, c => .writes (c.setLyc v)
  | .rdPpu46, _ => ioReadFault .unimplementedPpuRegister 0x46
  | .wrPpu46 v, _ => ioWriteFault .unimplementedPpuRegister 0x46 v
  | .rdBgp, c => .returns (packPal c.bgp)
  | .wrBgp v, c => .writes (c.setBgp (unpackPal v))
  | .rdObp0, c => .returns (packPal c.obp0)
  | .wrObp0 v, c => .writes (c.setObp0 (unpackPal v))
  | .rdObp1, c => .returns (packPal c.obp1)
  | .wrObp1 v, c => .writes (c.setObp1 (unpackPal v))
  | .rdWy, c => .returns c.wy
  | .wrWy v, c => .writes (c.setWy v)
  | .rdWx, c => .returns c.wx
  | .wrWx v, c => .writes (c.setWx v)
  | .rdBoot, _ => ioReadFault .writeOnlyRead 0x50
  | .wrBoot v, c => .writes (if disablesBoot v then c.setBoot false else c)
  | .rdIe, c => .returns (pack5 c.ie)
  | .wrIe v, c => .writes (c.setIe (unpack5 v))
  | .rdSound off, _ => ioReadFault .writeOnlyRead off
  | .wrSound _ _, c => .writes c
  | .rdUnimpl off, _ => ioReadFault .unimplementedIO off
  | .wrUnimpl off v, _ => ioWriteFault .unimplementedIO off v
  | .oamRdY n, c => oamRead n .y c
  | .oamWrY n v, c => oamWrite n .y v c
  | .oamRdX n, c => oamRead n .x c
  | .oamWrX n v, c => oamWrite n .x v c
  | .oamRdTile n, c => oamRead n .tile c
  | .oamWrTile n v, c => oamWrite n .tile v c
  | .oamRdAttr n, c => oamRead n .attr c
  | .oamWrAttr n v, c => oamWrite n .attr v c
  | .oamRdOor off, _ => oamReadFault off
  | .oamWrOor off v, _ => oamWriteFault off v
  | .btnSet j v, c => .writes (c.setBtn (c.btn.set j v))
  | .lySet v, c => .writes (c.setLy v)

theorem exec_eq_perform (i : Instr) (s : State) : exec i s = perform (effect i s.csr) s := by cases i <;> rfl

theorem exec_running {i : Instr} {s : State} (h : s.csr.fault = none) : exec i s = .next ((effect i s.csr).apply s) := by
  rw [exec_eq_perform, perform_running h]

/-- An operation that leaves a block leaves its latch as it was: only fault entry sets it. -/
theorem effect_writes_fault {i : Instr} {c c' : Csr} (h : effect i c = .writes c') : c'.fault = c.fault := by
  cases i
  case wrBoot v => simp only [effect, Effect.writes.injEq] at h; subst h; split <;> rfl
  case oamWrY n v => by_cases hn : n.toNat < 40 <;> simp [effect, oamWrite, oamWriteFault, hn] at h; subst h; rfl
  case oamWrX n v => by_cases hn : n.toNat < 40 <;> simp [effect, oamWrite, oamWriteFault, hn] at h; subst h; rfl
  case oamWrTile n v => by_cases hn : n.toNat < 40 <;> simp [effect, oamWrite, oamWriteFault, hn] at h; subst h; rfl
  case oamWrAttr n v => by_cases hn : n.toNat < 40 <;> simp [effect, oamWrite, oamWriteFault, hn] at h; subst h; rfl
  all_goals first
    | (simp only [effect, ioReadFault, ioWriteFault, oamReadFault, oamWriteFault, reduceCtorEq] at h; done)
    | (simp only [effect, Effect.writes.injEq] at h; subst h; rfl)
    | (simp only [effect, oamRead] at h; split at h <;> simp [oamReadFault] at h)

end Sys2Proof.Machine
end

