-- ==== Sys2Proof/Laws/PerInstr.lean ====
section
/-! SUPPORT. Laws made per instruction: the encoder gives every operation a word of the format of the agent that performs it (30_encoding R90). -/

namespace Sys2Proof

/-- The format of the agent that performs an operation: INPUT for `BTN.SET`, RASTER for `LY.SET`, BUS for every other (30_encoding R90, R96). -/
def Laws.EncodeFormat.agentFormat : Instr → Format
  | .btnSet _ _ => .j
  | .lySet _    => .l
  | _           => .b

/-- The word `encode` gives `i` has the format of the agent that performs `i`. -/
def Laws.EncodeFormat.Statement (i : Instr) : Prop := (encode i).format = Laws.EncodeFormat.agentFormat i

namespace Laws.EncodeFormat

theorem rdP1 : Statement .rdP1 := rfl
theorem wrP1 (v : Byte) : Statement (.wrP1 v) := rfl
theorem rdIf : Statement .rdIf := rfl
theorem wrIf (v : Byte) : Statement (.wrIf v) := rfl
theorem rdLcdc : Statement .rdLcdc := rfl
theorem wrLcdc (v : Byte) : Statement (.wrLcdc v) := rfl
theorem rdPpu41 : Statement .rdPpu41 := rfl
theorem wrPpu41 (v : Byte) : Statement (.wrPpu41 v) := rfl
theorem rdScy : Statement .rdScy := rfl
theorem wrScy (v : Byte) : Statement (.wrScy v) := rfl
theorem rdScx : Statement .rdScx := rfl
theorem wrScx (v : Byte) : Statement (.wrScx v) := rfl
theorem rdLy : Statement .rdLy := rfl
theorem wrLy (v : Byte) : Statement (.wrLy v) := rfl
theorem rdLyc : Statement .rdLyc := rfl
theorem wrLyc (v : Byte) : Statement (.wrLyc v) := rfl
theorem rdPpu46 : Statement .rdPpu46 := rfl
theorem wrPpu46 (v : Byte) : Statement (.wrPpu46 v) := rfl
theorem rdBgp : Statement .rdBgp := rfl
theorem wrBgp (v : Byte) : Statement (.wrBgp v) := rfl
theorem rdObp0 : Statement .rdObp0 := rfl
theorem wrObp0 (v : Byte) : Statement (.wrObp0 v) := rfl
theorem rdObp1 : Statement .rdObp1 := rfl
theorem wrObp1 (v : Byte) : Statement (.wrObp1 v) := rfl
theorem rdWy : Statement .rdWy := rfl
theorem wrWy (v : Byte) : Statement (.wrWy v) := rfl
theorem rdWx : Statement .rdWx := rfl
theorem wrWx (v : Byte) : Statement (.wrWx v) := rfl
theorem rdBoot : Statement .rdBoot := rfl
theorem wrBoot (v : Byte) : Statement (.wrBoot v) := rfl
theorem rdIe : Statement .rdIe := rfl
theorem wrIe (v : Byte) : Statement (.wrIe v) := rfl
theorem rdSound (off : Byte) : Statement (.rdSound off) := rfl
theorem wrSound (off v : Byte) : Statement (.wrSound off v) := rfl
theorem rdUnimpl (off : Byte) : Statement (.rdUnimpl off) := rfl
theorem wrUnimpl (off v : Byte) : Statement (.wrUnimpl off v) := rfl
theorem oamRdY (n : BitVec 6) : Statement (.oamRdY n) := rfl
theorem oamWrY (n : BitVec 6) (v : Byte) : Statement (.oamWrY n v) := rfl
theorem oamRdX (n : BitVec 6) : Statement (.oamRdX n) := rfl
theorem oamWrX (n : BitVec 6) (v : Byte) : Statement (.oamWrX n v) := rfl
theorem oamRdTile (n : BitVec 6) : Statement (.oamRdTile n) := rfl
theorem oamWrTile (n : BitVec 6) (v : Byte) : Statement (.oamWrTile n v) := rfl
theorem oamRdAttr (n : BitVec 6) : Statement (.oamRdAttr n) := rfl
theorem oamWrAttr (n : BitVec 6) (v : Byte) : Statement (.oamWrAttr n v) := rfl
theorem oamRdOor (off : Byte) : Statement (.oamRdOor off) := rfl
theorem oamWrOor (off v : Byte) : Statement (.oamWrOor off v) := rfl
theorem btnSet (j : Button) (v : Bool) : Statement (.btnSet j v) := rfl
theorem lySet (v : Byte) : Statement (.lySet v) := rfl

end Laws.EncodeFormat

end Sys2Proof
end

