-- ==== Sys2Proof/Tests/Slice0.lean ====
section
/-! SUPPORT. Tests: the well-formedness smoke, each operation's word written out from the table's encoding column, one small step per operation from 95_test_vectors, and a witness for the hypotheses of each statement. -/

namespace Sys2Proof.Tests

open Sys2Proof Sys2Proof.Machine Sys2Proof.Claims

/-! ## States and observations -/

/-- Reset with the block changed. -/
def withCsr (f : Csr → Csr) : State := { State.reset with csr := f State.reset.csr }

/-- A running block whose registers all differ. -/
def busy : State := withCsr fun c => { c with
  ie := ⟨true, true, false, false, true⟩, if_ := ⟨true, false, true, false, false⟩, bank := .buttons,
  btn := ⟨true, false, false, false, true, false, false, true⟩, lcdc := ⟨true, false, false, false, true, false, false, true⟩,
  scy := 0x33, scx := 0x44, ly := 0x12, lyc := 0x40, bgp := ⟨3, 1, 2, 0⟩, obp0 := ⟨2, 0, 1, 3⟩, obp1 := ⟨2, 2, 2, 2⟩,
  wy := 0x88, wx := 0x07,
  oam := (c.oam.set 1 ⟨0x01, 0x02, 0x03, false, true, false, 1⟩).set 39 ⟨0x11, 0x22, 0x33, true, false, true, 0⟩ }

/-- The record of a write of 0x00 to the line counter (95 T163). -/
def lyRecord : FaultRecord := ⟨.readOnlyWrite, .io, 0x44, .write, some 0x00⟩

/-- A halted block (95 P5). -/
def stopped : State := withCsr fun c => { c with scy := 0x33, ly := 0x12, fault := some lyRecord }

/-- The state after an operation that answers one. -/
def after (i : Instr) (s : State) : Option State :=
  match exec i s with
  | .next t => some t
  | _       => none

/-- What is seen of the block after an operation. -/
def see {α : Type} (f : Csr → α) (i : Instr) (s : State) : Option α := (after i s).map (fun t => f t.csr)

/-- The byte an operation returns. -/
def yields (i : Instr) (s : State) : Option Byte := (after i s).bind State.rdata

/-- The record of an operation's fault. -/
def record (i : Instr) (s : State) : Option FaultRecord := (after i s).bind (fun t => t.csr.fault)

/-- The byte the second of two operations returns. -/
def yields₂ (i j : Instr) (s : State) : Option Byte := (after i s).bind (yields j)

/-! ## Well-formedness: one ill-formed term for each check (30_encoding R99) -/

theorem smoke_rdSound : (Instr.rdSound 0x27).wellFormed = false := by decide
theorem smoke_rdSound_low : (Instr.rdSound 0x0F).wellFormed = false := by decide
theorem smoke_wrSound : (Instr.wrSound 0x27 0).wellFormed = false := by decide
theorem smoke_rdUnimpl : (Instr.rdUnimpl 0x0F).wellFormed = false := by decide
theorem smoke_wrUnimpl : (Instr.wrUnimpl 0x26 0).wellFormed = false := by decide
theorem smoke_oamRdY : (Instr.oamRdY 40).wellFormed = false := by decide
theorem smoke_oamWrY : (Instr.oamWrY 40 0).wellFormed = false := by decide
theorem smoke_oamRdX : (Instr.oamRdX 40).wellFormed = false := by decide
theorem smoke_oamWrX : (Instr.oamWrX 63 0).wellFormed = false := by decide
theorem smoke_oamRdTile : (Instr.oamRdTile 40).wellFormed = false := by decide
theorem smoke_oamWrTile : (Instr.oamWrTile 40 0).wellFormed = false := by decide
theorem smoke_oamRdAttr : (Instr.oamRdAttr 40).wellFormed = false := by decide
theorem smoke_oamWrAttr : (Instr.oamWrAttr 63 0).wellFormed = false := by decide
theorem smoke_oamRdOor : (Instr.oamRdOor 0x9F).wellFormed = false := by decide
theorem smoke_oamWrOor : (Instr.oamWrOor 0x00 0).wellFormed = false := by decide

/-! ## Decoding: each operation's word, `s d oooooooo vvvvvvvv` from the encoding column of opcode_table.json -/

theorem decode_rdP1 : decode (.bus 0b00_00000000_00000000) = .rdP1 := by decide
theorem decode_wrP1 : decode (.bus 0b01_00000000_00110000) = .wrP1 0x30 := by decide
theorem decode_rdIf : decode (.bus 0b00_00001111_00000000) = .rdIf := by decide
theorem decode_wrIf : decode (.bus 0b01_00001111_11100101) = .wrIf 0xE5 := by decide
theorem decode_rdLcdc : decode (.bus 0b00_01000000_00000000) = .rdLcdc := by decide
theorem decode_wrLcdc : decode (.bus 0b01_01000000_10010001) = .wrLcdc 0x91 := by decide
theorem decode_rdPpu41 : decode (.bus 0b00_01000001_00000000) = .rdPpu41 := by decide
theorem decode_wrPpu41 : decode (.bus 0b01_01000001_10000101) = .wrPpu41 0x85 := by decide
theorem decode_rdScy : decode (.bus 0b00_01000010_00000000) = .rdScy := by decide
theorem decode_wrScy : decode (.bus 0b01_01000010_11111111) = .wrScy 0xFF := by decide
theorem decode_rdScx : decode (.bus 0b00_01000011_00000000) = .rdScx := by decide
theorem decode_wrScx : decode (.bus 0b01_01000011_00001000) = .wrScx 0x08 := by decide
theorem decode_rdLy : decode (.bus 0b00_01000100_00000000) = .rdLy := by decide
theorem decode_wrLy : decode (.bus 0b01_01000100_00010010) = .wrLy 0x12 := by decide
theorem decode_rdLyc : decode (.bus 0b00_01000101_00000000) = .rdLyc := by decide
theorem decode_wrLyc : decode (.bus 0b01_01000101_01000000) = .wrLyc 0x40 := by decide
theorem decode_rdPpu46 : decode (.bus 0b00_01000110_00000000) = .rdPpu46 := by decide
theorem decode_wrPpu46 : decode (.bus 0b01_01000110_11000000) = .wrPpu46 0xC0 := by decide
theorem decode_rdBgp : decode (.bus 0b00_01000111_00000000) = .rdBgp := by decide
theorem decode_wrBgp : decode (.bus 0b01_01000111_00100111) = .wrBgp 0x27 := by decide
theorem decode_rdObp0 : decode (.bus 0b00_01001000_00000000) = .rdObp0 := by decide
theorem decode_wrObp0 : decode (.bus 0b01_01001000_11010010) = .wrObp0 0xD2 := by decide
theorem decode_rdObp1 : decode (.bus 0b00_01001001_00000000) = .rdObp1 := by decide
theorem decode_wrObp1 : decode (.bus 0b01_01001001_10101010) = .wrObp1 0xAA := by decide
theorem decode_rdWy : decode (.bus 0b00_01001010_00000000) = .rdWy := by decide
theorem decode_wrWy : decode (.bus 0b01_01001010_10001000) = .wrWy 0x88 := by decide
theorem decode_rdWx : decode (.bus 0b00_01001011_00000000) = .rdWx := by decide
theorem decode_wrWx : decode (.bus 0b01_01001011_00000111) = .wrWx 0x07 := by decide
theorem decode_rdBoot : decode (.bus 0b00_01010000_00000000) = .rdBoot := by decide
theorem decode_wrBoot : decode (.bus 0b01_01010000_00000001) = .wrBoot 0x01 := by decide
theorem decode_rdIe : decode (.bus 0b00_11111111_00000000) = .rdIe := by decide
theorem decode_wrIe : decode (.bus 0b01_11111111_00011111) = .wrIe 0x1F := by decide
theorem decode_rdSound : decode (.bus 0b00_00010000_00000000) = .rdSound 0x10 := by decide
theorem decode_wrSound : decode (.bus 0b01_00100110_10000000) = .wrSound 0x26 0x80 := by decide
theorem decode_rdUnimpl : decode (.bus 0b00_00000001_00000000) = .rdUnimpl 0x01 := by decide
theorem decode_wrUnimpl : decode (.bus 0b01_11111110_10000001) = .wrUnimpl 0xFE 0x81 := by decide
theorem decode_oamRdY : decode (.bus 0b10_000001_00_00000000) = .oamRdY 1 := by decide
theorem decode_oamWrY : decode (.bus 0b11_000001_00_01010000) = .oamWrY 1 0x50 := by decide
theorem decode_oamRdX : decode (.bus 0b10_000001_01_00000000) = .oamRdX 1 := by decide
theorem decode_oamWrX : decode (.bus 0b11_000001_01_00010000) = .oamWrX 1 0x10 := by decide
theorem decode_oamRdTile : decode (.bus 0b10_000001_10_00000000) = .oamRdTile 1 := by decide
theorem decode_oamWrTile : decode (.bus 0b11_000001_10_01111111) = .oamWrTile 1 0x7F := by decide
theorem decode_oamRdAttr : decode (.bus 0b10_100111_11_00000000) = .oamRdAttr 39 := by decide
theorem decode_oamWrAttr : decode (.bus 0b11_100111_11_01011010) = .oamWrAttr 39 0x5A := by decide
theorem decode_oamRdOor : decode (.bus 0b10_10100000_00000000) = .oamRdOor 0xA0 := by decide
theorem decode_oamWrOor : decode (.bus 0b11_11111111_10101011) = .oamWrOor 0xFF 0xAB := by decide
theorem decode_btnSet : decode (.input 0b100_1) = .btnSet .a true := by decide
theorem decode_btnSet_left : decode (.input 0b001_0) = .btnSet .left false := by decide
theorem decode_lySet : decode (.raster 0b10010000) = .lySet 0x90 := by decide
theorem decode_just_past_sound : decode (.bus 0x12700) = .wrUnimpl 0x27 0x00 := by decide
theorem decode_read_data_ignored : decode (.bus 0x00FFF) = .rdIf := by decide
theorem decode_refuses_wide_words : decodeNat .b 0x40000 = .error (.wordTooWide .b) ∧ decodeNat .j 16 = .error (.wordTooWide .j) ∧
    decodeNat .l 256 = .error (.wordTooWide .l) := by decide

/-! ## The host's words -/

theorem table_word_b : decodeTableWord 24 0x10FE5 = some (.wrIf 0xE5) := by decide
theorem table_word_j : decodeTableWord 8 0x9 = some (.btnSet .a true) := by decide
theorem table_word_l : decodeTableWord 8 0x90 = some (.lySet 0x90) := by decide
theorem table_word_refused : decodeTableWord 24 0x40000 = none := by decide
theorem placed_word_runs : (step (State.reset.withFetchWord 24 0x10F01)) = exec (.wrIf 0x01) State.reset := by rfl

/-! ## One step per operation, expected results from 95_test_vectors -/

/-- T1, T8. -/
theorem test_rdIf : yields .rdIf State.reset = some 0x00 ∧ yields .rdIf busy = some 0x05 := by decide
/-- T8, T9. -/
theorem test_wrIf : see Csr.if_ (.wrIf 0xE5) busy = some ⟨true, false, true, false, false⟩ ∧ yields₂ (.wrIf 0xFF) .rdIf busy = some 0x1F := by decide
/-- T16: 0x0C, not 0x0F. -/
theorem test_wrIf_overwrites : yields₂ (.wrIf 0x0C) .rdIf (withCsr fun c => { c with if_ := ⟨true, true, false, false, false⟩ }) = some 0x0C := by decide
/-- T2, R123. -/
theorem test_rdIe : yields .rdIe State.reset = some 0x00 ∧ yields .rdIe busy = some 0x13 := by decide
/-- T13, T18. -/
theorem test_wrIe : see Csr.ie (.wrIe 0x10) busy = some ⟨false, false, false, false, true⟩ ∧ see Csr.if_ (.wrIe 0x00) busy = some busy.csr.if_ := by decide
/-- T32, T39. -/
theorem test_rdP1_direction : yields .rdP1 (withCsr fun c => { c with bank := .direction, btn := ⟨false, false, true, false, true, true, true, true⟩ }) = some 0x04 := by decide
/-- T51: the select bits do not read back. -/
theorem test_rdP1_buttons : yields .rdP1 busy = some 0x09 := by decide
/-- T44, T49. -/
theorem test_wrP1 : see Csr.bank (.wrP1 0x30) State.reset = some .buttons ∧ see Csr.bank (.wrP1 0xDF) busy = some .direction := by decide
/-- T48, T50. -/
theorem test_wrP1_keeps : see Csr.bank (.wrP1 0xCF) busy = some .buttons ∧ see Csr.btn (.wrP1 0x0F) State.reset = some State.reset.csr.btn := by decide
/-- T52. -/
theorem test_btnSet : see Csr.btn (.btnSet .start true) State.reset = some ⟨false, false, false, false, false, false, false, true⟩ := by decide
/-- T20. -/
theorem test_btnSet_no_interrupt : see Csr.if_ (.btnSet .a true) State.reset = some ⟨false, false, false, false, false⟩ := by decide
/-- T60. -/
theorem test_rdLcdc : yields .rdLcdc busy = some 0x91 := by decide
/-- T63. -/
theorem test_wrLcdc : see Csr.lcdc (.wrLcdc 0xA5) busy = some ⟨true, false, true, false, false, true, false, true⟩ := by decide
/-- T89. -/
theorem test_rdScy : yields .rdScy busy = some 0x33 := by decide
/-- T65, T89. -/
theorem test_wrScy : see Csr.scy (.wrScy 0xFF) busy = some 0xFF ∧ see Csr.scx (.wrScy 0xFF) busy = some 0x44 := by decide
/-- T89. -/
theorem test_rdScx : yields .rdScx busy = some 0x44 := by decide
/-- T66, T89. -/
theorem test_wrScx : see Csr.scx (.wrScx 0x08) busy = some 0x08 ∧ see Csr.scy (.wrScx 0x08) busy = some 0x33 := by decide
/-- T72, R167. -/
theorem test_rdLy : yields .rdLy busy = some 0x12 := by decide
/-- T72, T163. -/
theorem test_wrLy : record (.wrLy 0x00) busy = some lyRecord ∧ see Csr.ly (.wrLy 0x00) busy = some 0x12 := by decide
/-- T73: even when the value equals the current one. -/
theorem test_wrLy_same : (record (.wrLy 0x12) busy).map FaultRecord.kind = some .readOnlyWrite := by decide
/-- T71. -/
theorem test_lySet : yields₂ (.lySet 0xFF) .rdLy busy = some 0xFF ∧ see Csr.lyc (.lySet 0xFF) busy = some 0x40 := by decide
/-- T67. -/
theorem test_rdLyc : yields .rdLyc busy = some 0x40 := by decide
/-- T67, T74: LY = LYC sets nothing. -/
theorem test_wrLyc : see Csr.lyc (.wrLyc 0x12) busy = some 0x12 ∧ see Csr.if_ (.wrLyc 0x12) busy = some busy.csr.if_ := by decide
/-- T75. -/
theorem test_rdBgp : yields .rdBgp busy = some 0x27 := by decide
/-- T76, T84. -/
theorem test_wrBgp : see Csr.bgp (.wrBgp 0xE4) busy = some ⟨0, 1, 2, 3⟩ ∧ see Csr.obp0 (.wrBgp 0xE4) busy = some ⟨2, 0, 1, 3⟩ := by decide
/-- T83. -/
theorem test_rdObp0 : yields .rdObp0 busy = some 0xD2 := by decide
/-- T81, T84. -/
theorem test_wrObp0 : see Csr.obp0 (.wrObp0 0x55) busy = some ⟨1, 1, 1, 1⟩ ∧ see Csr.obp1 (.wrObp0 0x55) busy = some ⟨2, 2, 2, 2⟩ := by decide
/-- T82. -/
theorem test_rdObp1 : yields .rdObp1 busy = some 0xAA := by decide
/-- T77, T84. -/
theorem test_wrObp1 : see Csr.obp1 (.wrObp1 0x1B) busy = some ⟨3, 2, 1, 0⟩ ∧ see Csr.bgp (.wrObp1 0x1B) busy = some ⟨3, 1, 2, 0⟩ := by decide
/-- T68. -/
theorem test_rdWy : yields .rdWy busy = some 0x88 := by decide
/-- T68. -/
theorem test_wrWy : see Csr.wy (.wrWy 0x01) busy = some 0x01 ∧ see Csr.wx (.wrWy 0x01) busy = some 0x07 := by decide
/-- T69. -/
theorem test_rdWx : yields .rdWx busy = some 0x07 := by decide
/-- T69. -/
theorem test_wrWx : see Csr.wx (.wrWx 0x01) busy = some 0x01 ∧ see Csr.wy (.wrWx 0x01) busy = some 0x88 := by decide
/-- T85. -/
theorem test_rdPpu41 : record .rdPpu41 busy = some ⟨.unimplementedPpuRegister, .io, 0x41, .read, none⟩ := by decide
/-- T86. -/
theorem test_wrPpu41 : record (.wrPpu41 0x85) busy = some ⟨.unimplementedPpuRegister, .io, 0x41, .write, some 0x85⟩ := by decide
/-- T87. -/
theorem test_rdPpu46 : record .rdPpu46 busy = some ⟨.unimplementedPpuRegister, .io, 0x46, .read, none⟩ := by decide
/-- T88: no copy into the attribute table. -/
theorem test_wrPpu46 : record (.wrPpu46 0xC0) busy = some ⟨.unimplementedPpuRegister, .io, 0x46, .write, some 0xC0⟩ ∧ see Csr.oam (.wrPpu46 0xC0) busy = some busy.csr.oam := by decide
/-- T117, T113. -/
theorem test_oamRdY : yields (.oamRdY 1) busy = some 0x01 ∧ yields (.oamRdY 39) busy = some 0x11 := by decide
/-- T100, T117. -/
theorem test_oamWrY : yields₂ (.oamWrY 0 0x50) (.oamRdY 0) busy = some 0x50 ∧ yields₂ (.oamWrY 0 0x50) (.oamRdY 1) busy = some 0x01 := by decide
/-- T117, T113. -/
theorem test_oamRdX : yields (.oamRdX 1) busy = some 0x02 ∧ yields (.oamRdX 39) busy = some 0x22 := by decide
/-- T118. -/
theorem test_oamWrX : yields₂ (.oamWrX 39 0xAA) (.oamRdX 39) busy = some 0xAA ∧ yields₂ (.oamWrX 39 0xAA) (.oamRdY 39) busy = some 0x11 := by decide
/-- T117, T113. -/
theorem test_oamRdTile : yields (.oamRdTile 1) busy = some 0x03 ∧ yields (.oamRdTile 39) busy = some 0x33 := by decide
/-- T102. -/
theorem test_oamWrTile : yields₂ (.oamWrTile 0 0x7F) (.oamRdTile 0) busy = some 0x7F := by decide
/-- T112, T111. -/
theorem test_oamRdAttr : yields (.oamRdAttr 1) busy = some 0x50 ∧ yields (.oamRdAttr 39) busy = some 0xA0 := by decide
/-- T111: bit 7 does not set the palette selector. -/
theorem test_oamWrAttr : see (fun c => c.oam[0]) (.oamWrAttr 0 0xA7) State.reset = some ⟨0, 0, 0, true, false, true, 0⟩ := by decide
/-- T103, T105. -/
theorem test_oamWrAttr_low_nibble : yields₂ (.oamWrAttr 0 0xFF) (.oamRdAttr 0) busy = some 0xF0 ∧ yields₂ (.oamWrAttr 0 0x0F) (.oamRdAttr 0) busy = some 0x00 := by decide
/-- T114. -/
theorem test_oamRdOor : record (.oamRdOor 0xA0) busy = some ⟨.oamOffsetOutOfRange, .oam, 0xA0, .read, none⟩ := by decide
/-- T116. -/
theorem test_oamWrOor : record (.oamWrOor 0xFF 0xAB) busy = some ⟨.oamOffsetOutOfRange, .oam, 0xFF, .write, some 0xAB⟩ := by decide
/-- T132. -/
theorem test_rdSound : record (.rdSound 0x1A) busy = some ⟨.writeOnlyRead, .io, 0x1A, .read, none⟩ := by decide
/-- T131: accepted, discarded. -/
theorem test_wrSound : see id (.wrSound 0x26 0xFF) busy = some busy.csr := by decide
/-- T142. -/
theorem test_rdBoot : record .rdBoot busy = some ⟨.writeOnlyRead, .io, 0x50, .read, none⟩ ∧ see Csr.boot .rdBoot busy = some true := by decide
/-- T138, T136. -/
theorem test_wrBoot : see Csr.boot (.wrBoot 0x80) busy = some false ∧ see Csr.boot (.wrBoot 0x00) busy = some true := by decide
/-- T140. -/
theorem test_wrBoot_monotone : see Csr.boot (.wrBoot 0x00) (withCsr fun c => { c with boot := false }) = some false := by decide
/-- T143. -/
theorem test_rdUnimpl : record (.rdUnimpl 0x01) busy = some ⟨.unimplementedIO, .io, 0x01, .read, none⟩ := by decide
/-- T144. -/
theorem test_wrUnimpl : record (.wrUnimpl 0x02 0x81) busy = some ⟨.unimplementedIO, .io, 0x02, .write, some 0x81⟩ := by decide

/-! ## Halting, reset and the empty schedule -/

/-- T160, T161, P5. -/
theorem test_halted_write : see Csr.scy (.wrScy 0x44) stopped = some 0x33 ∧ see Csr.btn (.btnSet .a true) stopped = some State.reset.csr.btn := by decide
/-- T160: the read yields nothing. -/
theorem test_halted_read : (after .rdScy stopped).map State.rdata = some none := by decide
/-- T162. -/
theorem test_halted_keeps_first : record (.rdUnimpl 0x01) stopped = some lyRecord := by decide
/-- T171, T172. -/
theorem test_reset : State.reset.bootSequence = true ∧ State.reset.servedAtZero = .bootCode ∧ State.reset.faultCode = 0 := by decide
/-- 70 R309: nothing is in flight. -/
theorem test_idle : (match step State.reset with | .next t => some t.csr | _ => none) = some State.reset.csr := by decide
/-- 60 R250. -/
theorem test_fault_codes : [FaultKind.unimplementedIO, .unimplementedPpuRegister, .readOnlyWrite, .writeOnlyRead, .oamOffsetOutOfRange, .invalidPackedValue].map FaultKind.code = [1, 2, 3, 4, 5, 6] := by decide

/-! ## The assembler and the debugger host -/

/-- 30_encoding R99, R100. -/
theorem test_assemble : assemble "WR.BGP 0x27".toList = .ok (.wrBgp 0x27) ∧ assemble "IOWR 0x47, 0x27".toList = .ok (.wrBgp 0x27) := by decide
/-- 30_encoding R99. -/
theorem test_assemble_forms : assemble "BTN.SET A, 1".toList = .ok (.btnSet .a true) ∧ assemble "OAM.WR.ATTR 39, 0x5A".toList = .ok (.oamWrAttr 39 0x5A) := by decide
/-- 30_encoding R99: an operand outside the stated range is refused. -/
theorem test_assemble_refuses : assemble "OAM.RD.Y 40".toList = .error .operandOutOfRange ∧ assemble "WR.SOUND 0x27, 0".toList = .error .operandOutOfRange ∧ assemble "LY.SET 256".toList = .error .operandOutOfRange := by decide
/-- 30_encoding R95, R96. -/
theorem test_mnemonics : (Mnemonic.all.map Mnemonic.text).Nodup ∧ Mnemonic.all.length = 48 ∧ busRows.length = 104 := by decide
/-- V7, V10. -/
theorem test_breakpoint_twice : DebugHost.toggle 0x150 (DebugHost.toggle 0x150 []) = [] := by decide
/-- V10, V11, P6. -/
theorem test_parse : DebugHost.parse "b 0150".toList = .ok (.setBreakpoint 0x150) ∧ DebugHost.parse "p hl".toList = .ok (.printRegister (.word .hl)) ∧ DebugHost.parse [] = .ok .lastCommand := by decide
/-- P6. -/
theorem test_parse_refuses : DebugHost.parse "x".toList = .error .unknownCommand ∧ DebugHost.parse "b zz".toList = .error .notHexadecimal := by decide

/-- A core whose program counter is its state: address 3 faults, a free run from 0 never returns, from 1 stops at 2. -/
def toyCore : DebugHost.CoreView Nat where
  byteReg _ _ := 0x0A
  wordReg s _ := BitVec.ofNat 16 s
  step s := if s = 3 then .halted 30 else .executed (s + 1) "nop".toList
  run _ s := if s = 0 then .forever else if s = 1 then .stopped 2 else .halted s
  disassemble s n := (List.range n).map (fun k => (s + k, "nop".toList))

/-- The toy core in a controller that checks a breakpoint at once. -/
def toy : DebugHost.Setup Nat := ⟨toyCore, true, fun _ => false⟩

/-- A Debugging session at the prompt, with its input. -/
def session (input : List DebugHost.Input) : DebugHost.Session Nat := ⟨DebugHost.Controller.start .debugging, 0, input⟩

/-- R273, R274: a *Continue* stops at the breakpoint, and only then is the next line read. -/
theorem test_continue : let x := (DebugHost.acts toy 5 (session [.line "b 2".toList, .line "c".toList, .line "q".toList])).1
    x.core = 2 ∧ x.controller.activity = .ready ∧ x.input = [.line "q".toList] := by decide
/-- R282: a fault of the block ends a *Continue* without breakpoint. -/
theorem test_continue_halts : let x := (DebugHost.acts toy 5 (session [.line "c".toList, .line "q".toList])).1
    x.core = 30 ∧ x.controller.activity = .ended ∧ x.input = [.line "q".toList] := by decide
/-- R276, R282: HL at 16 bits; an input failure, then the prompt again. -/
theorem test_print_and_failure : (DebugHost.acts toy 3 (session [.failure, .line "p hl".toList, .line "p A".toList])).2 =
    [.inputError, .register (.word .hl) "0000".toList, .register (.byte .a) "0a".toList] := by decide

/-! ## Witnesses: the hypotheses of each statement can be met, at the edges of their ranges -/

/-- A state that presents words. -/
def presents (ws : List OpWord) : State := { State.reset with pending := ws }

/-- `busy` with other interrupt flags. -/
def busyOtherFlags : State := { busy with csr := { busy.csr with ie := ⟨false, true, true, true, false⟩, if_ := ⟨false, false, false, false, true⟩ } }

/-- `busy` with other flags in the unselected bank. -/
def busyOtherBank : State := { busy with csr := { busy.csr with btn := ⟨false, true, true, true, true, false, false, true⟩ } }

theorem running_busy : Running busy := by decide
theorem running_reset : Running State.reset := by decide

theorem witness_DecodeOfEncodeIsTheOperation :
    ([.rdSound 0x10, .wrSound 0x26 0xFF, .rdUnimpl 0x01, .rdUnimpl 0x0E, .rdUnimpl 0x27, .rdUnimpl 0x3F, .wrUnimpl 0x4C 0, .wrUnimpl 0x4F 0,
      .wrUnimpl 0x51 0, .wrUnimpl 0xFE 0, .oamRdY 0, .oamWrAttr 39 0xFF, .oamRdOor 0xA0, .oamWrOor 0xFF 0] : List Instr).all
      Instr.wellFormed = true := by decide
theorem witness_ReadDataIsIgnored : busDir 0x00F00 = .read ∧ (0x00F00 : BitVec 18) &&& 0x3FF00 = 0x00FFF &&& 0x3FF00 := by decide
theorem witness_AssemblerRefusesOutOfRangeOperands :
    assembleAs .wrSound ["0x26".toList, "128".toList] = .ok (.wrSound 0x26 0x80) ∧
    number? "63".toList = some 63 ∧ number? "64".toList = some 64 ∧ number? "2".toList = some 2 := by decide
theorem witness_StepRunsTheOldestPresentedWord :
    (presents [.bus 0x10F01, .input 0x9]).pending = .bus 0x10F01 :: [.input 0x9] ∧ (presents []).pending = [] := by decide
theorem witness_PlacedTableWordRunsNext : decodeTableWord 24 0x3FFFF = some (.oamWrOor 0xFF 0xFF) ∧
    decodeTableWord 8 15 = some (.btnSet .start true) ∧ decodeTableWord 8 16 = some (.lySet 0x10) := by decide
theorem witness_InterruptFlagRegisterReadsAndOverwrites :
    Running busy ∧ exec .rdIf busy = .next (reading busy 0x05) ∧ ∀ v, Instr.rdIf ≠ .wrIf v := ⟨rfl, rfl, by simp⟩
theorem witness_InterruptEnableRegisterReadsAndOverwrites : Running busy ∧ Running State.reset := by decide
theorem witness_InterruptFlagsInfluenceNothingElse :
    busyOtherFlags = { busy with csr := { busy.csr with ie := busyOtherFlags.csr.ie, if_ := busyOtherFlags.csr.if_ } } ∧
    exec .rdScy busy = .next (reading busy 0x33) ∧ exec .rdScy busyOtherFlags = .next (reading busyOtherFlags 0x33) ∧
    Instr.rdScy ≠ .rdIf ∧ Instr.rdScy ≠ .rdIe := ⟨rfl, rfl, rfl, by decide, by decide⟩
theorem witness_JoypadReadShowsTheSelectedBank :
    Running State.reset ∧ State.reset.csr.bank = .direction ∧ Running busy ∧ busy.csr.bank = .buttons := by decide
theorem witness_JoypadWriteSelectsTheBank : Running busy ∧ (0x30 : Byte) &&& 0x30 = 0xFF &&& 0x30 ∧ (0x00 : Byte) &&& 0x30 = 0xCF &&& 0x30 := by decide
theorem witness_ButtonSetChangesOneFlag : Running busy ∧ Button.start ≠ Button.a := by decide
theorem witness_UnselectedBankIsInvisible :
    Running busy ∧ Running busyOtherBank ∧ busyOtherBank.csr.bank = busy.csr.bank ∧
    (∀ k, k < 4 → busyOtherBank.csr.btn.get (buttonOf (BitVec.ofNat 3 (4 * busy.csr.bank.index + k))) =
      busy.csr.btn.get (buttonOf (BitVec.ofNat 3 (4 * busy.csr.bank.index + k)))) ∧
    exec .rdP1 busy = .next (reading busy 0x09) ∧ exec .rdP1 busyOtherBank = .next (reading busyOtherBank 0x09) :=
  ⟨rfl, rfl, rfl, by decide, rfl, rfl⟩
theorem witness_LcdControlReadsAndOverwrites : Running busy := by decide
theorem witness_PlainByteRegistersReadAndStore : Running busy := by decide
theorem witness_LineCounterReadsWhatTheRasterizerLeft :
    Running busy ∧ exec (.wrScy 0xFF) busy = .next (wrote busy { busy.csr with scy := 0xFF }) ∧ ∀ v, Instr.wrScy 0xFF ≠ .lySet v :=
  ⟨rfl, rfl, by simp⟩
theorem witness_LineCounterSetByTheRasterizer : Running busy := by decide
theorem witness_LineCounterWriteFaults : Running busy := by decide
theorem witness_PaletteRoundTripIsLossless : Running busy := by decide
theorem witness_PaletteRegistersReadAndUnpack : Running busy := by decide
theorem witness_UnimplementedPpuOffsetsFault :
    Running busy ∧ (⟨.unimplementedPpuRegister, .io, 0x46, .read, none⟩ : FaultRecord).kind = .unimplementedPpuRegister := by decide
theorem witness_table_changes : exec (.oamWrY 39 0xFF) busy = .next (wrote busy { busy.csr with oam := busy.csr.oam.set 39 { busy.csr.oam[39] with y := 0xFF } }) ∧
    busy.csr.oam.set 39 { busy.csr.oam[39] with y := 0xFF } ≠ busy.csr.oam := ⟨rfl, by decide⟩
theorem witness_SpriteReadsYieldTheField : (0 : BitVec 6).toNat < 40 ∧ (39 : BitVec 6).toNat < 40 ∧ Running busy ∧
    busy.csr.oam[39].priority = true ∧ busy.csr.oam[39].flipY = false ∧ busy.csr.oam[39].flipX = true := by decide
theorem witness_attribute_byte_entry : (⟨0, 0, 0, true, false, true, 1⟩ : SpriteEntry).priority = true ∧
    (⟨0, 0, 0, true, false, true, 1⟩ : SpriteEntry).palette = 1 := by decide
theorem witness_SpriteWritesStoreTheField : (0 : BitVec 6).toNat < 40 ∧ (39 : BitVec 6).toNat < 40 ∧ Running busy := by decide
theorem witness_SpriteAttributeWriteSetsFourFields : (0 : BitVec 6).toNat < 40 ∧ (39 : BitVec 6).toNat < 40 ∧ Running busy := by decide
theorem witness_OffsetsBeyondTheTableFault : Running busy ∧ oamrd 0xA0 = .oamRdOor 0xA0 ∧ oamrd 0x9F ≠ .oamRdOor 0x9F ∧
    oamwr 0xFF 0 = .oamWrOor 0xFF 0 := by decide
theorem witness_SpriteOffsetsAreIndependent : Running busy ∧ (0x00 : Byte).toNat < 160 ∧ (0x9F : Byte).toNat < 160 := by decide
theorem witness_SoundWritesAreDiscarded : 0x10 ≤ (0x10 : Byte).toNat ∧ (0x26 : Byte).toNat ≤ 0x26 ∧ Running busy := by decide
theorem witness_WriteOnlyReadsFault : 0x10 ≤ (0x10 : Byte).toNat ∧ (0x26 : Byte).toNat ≤ 0x26 ∧ Running busy ∧
    (⟨.writeOnlyRead, .io, 0x50, .read, none⟩ : FaultRecord).kind = .writeOnlyRead := by decide
theorem witness_BootWriteDisablesTheOverlayOnce : Running busy ∧ (0x80 : Byte) ≠ 0 ∧
    exec (.wrBoot 0x01) busy = .next (wrote busy { busy.csr with boot := false }) := ⟨rfl, by decide, rfl⟩
theorem witness_overlay_stays_off : exec (.wrBoot 0x00) (withCsr fun c => { c with boot := false }) =
    .next (withCsr fun c => { c with boot := false }) := rfl
theorem witness_UnimplementedOffsetsFault : ([0x01, 0x0E, 0x27, 0x3F, 0x4C, 0x4F, 0x51, 0xFE] : List Byte).all inUnimplemented = true ∧
    ([0x00, 0x0F, 0x10, 0x26, 0x40, 0x4B, 0x50, 0xFF] : List Byte).any inUnimplemented = false ∧ Running busy ∧
    (⟨.unimplementedIO, .io, 0x01, .read, none⟩ : FaultRecord).kind = .unimplementedIO := by decide
theorem witness_NothingIsPerformedWhileHalted : stopped.csr.fault = some lyRecord := by decide
theorem witness_FaultsChangeOnlyTheLatch :
    Running busy ∧ exec (.wrLy 0x00) busy = .next (faulted busy lyRecord) ∧ (faulted busy lyRecord).csr.fault = some lyRecord :=
  ⟨rfl, rfl, rfl⟩
theorem witness_ExactlyTheAvoidedWordsFault :
    Running busy ∧ exec (decode (.bus 0x14400)) busy = .next (faulted busy lyRecord) ∧ OpWord.avoided (.bus 0x14400) = true ∧
    exec (decode (.bus 0x04400)) busy = .next (reading busy 0x12) ∧ OpWord.avoided (.bus 0x04400) = false := ⟨rfl, rfl, by decide, rfl, by decide⟩
theorem witness_FaultRecordsNameTheOperation :
    Running busy ∧ exec (decode (.bus 0x14400)) busy = .next (faulted busy lyRecord) ∧ (faulted busy lyRecord).csr.fault = some lyRecord :=
  ⟨rfl, rfl, rfl⟩
theorem witness_DataIsReturnedExactlyByPerformedReads :
    exec (decode (.bus 0x04400)) busy = .next (reading busy 0x12) ∧
    exec (decode (.bus 0x04400)) stopped = .next { stopped with rdata := none } := ⟨rfl, rfl⟩
theorem witness_StepKeepsTheFaultLatchLegal :
    LatchLegal stopped ∧ step stopped = .next stopped ∧ stopped.csr.fault = some lyRecord ∧
    step (stopped.present (.bus 0x00100)) = .next { stopped with rdata := none } ∧
    LatchLegal busy ∧ step (busy.present (.bus 0x14400)) = .next (faulted busy lyRecord) := by
  refine ⟨fun r h => ?_, rfl, rfl, rfl, (by intro r h; cases h), rfl⟩
  injection h with h
  subst h
  decide
theorem witness_ReadsHaveNoSideEffect :
    IsRead .rdScy ∧ IsRead .rdBoot ∧ Running busy ∧ exec .rdScy busy = .next (reading busy 0x33) ∧
    exec .rdBoot busy = .next (faulted busy ⟨.writeOnlyRead, .io, 0x50, .read, none⟩) :=
  ⟨⟨0x04200, by decide, by decide⟩, ⟨0x05000, by decide, by decide⟩, rfl, rfl, rfl⟩
theorem witness_OperationsAreIdempotent : exec (.wrP1 0x30) busy = .next (wrote busy { busy.csr with bank := .buttons }) := rfl
theorem witness_EachFieldHasOneWriter :
    exec (.wrBoot 0x01) busy = .next (wrote busy { busy.csr with boot := false }) ∧
    (wrote busy { busy.csr with boot := false }).csr.boot ≠ busy.csr.boot := ⟨rfl, by decide⟩
theorem witness_each_field_can_change :
    see Csr.ie (.wrIe 0x1F) State.reset ≠ some State.reset.csr.ie ∧ see Csr.if_ (.wrIf 0x1F) State.reset ≠ some State.reset.csr.if_ ∧
    see Csr.bank (.wrP1 0x20) State.reset ≠ some State.reset.csr.bank ∧ see Csr.btn (.btnSet .up true) State.reset ≠ some State.reset.csr.btn ∧
    see Csr.lcdc (.wrLcdc 1) State.reset ≠ some State.reset.csr.lcdc ∧ see Csr.scy (.wrScy 1) State.reset ≠ some State.reset.csr.scy ∧
    see Csr.scx (.wrScx 1) State.reset ≠ some State.reset.csr.scx ∧ see Csr.ly (.lySet 1) State.reset ≠ some State.reset.csr.ly ∧
    see Csr.lyc (.wrLyc 1) State.reset ≠ some State.reset.csr.lyc ∧ see Csr.bgp (.wrBgp 1) State.reset ≠ some State.reset.csr.bgp ∧
    see Csr.obp0 (.wrObp0 1) State.reset ≠ some State.reset.csr.obp0 ∧ see Csr.obp1 (.wrObp1 1) State.reset ≠ some State.reset.csr.obp1 ∧
    see Csr.wy (.wrWy 1) State.reset ≠ some State.reset.csr.wy ∧ see Csr.wx (.wrWx 1) State.reset ≠ some State.reset.csr.wx ∧
    see (fun c => c.oam[39]) (.oamWrY 39 1) State.reset ≠ some State.reset.csr.oam[39] := by decide
theorem witness_BootOutputFollowsTheHistory :
    State.reset.bootSequence = true ∧ (withCsr fun c => { c with boot := false }).bootSequence = false := by decide
theorem witness_RunsHaltExactlyAtTheFirstAvoidedWord :
    ([.bus 0x14233, .bus 0x14400, .bus 0x00100] : List OpWord).find? OpWord.avoided = some (.bus 0x14400) := by decide
theorem witness_PerformedOperationsGiveEachFieldItsDatum : Running busy ∧ (39 : BitVec 6).toNat < 40 ∧
    exec (.wrScy 0xFF) busy = .next (wrote busy { busy.csr with scy := 0xFF }) := ⟨rfl, by decide, rfl⟩
theorem witness_ModeIsChosenAtStartup :
    (DebugHost.Controller.start .running).mode = .running ∧ (DebugHost.Controller.start .running).activity = .ready ∧
    toy.core.run toy.runUntil 0 = .forever ∧ toy.core.run toy.runUntil 1 = .stopped 2 ∧ toy.core.run toy.runUntil 2 = .halted 2 ∧
    (session [.line "s".toList]).controller.mode = .debugging ∧ (session [.line "s".toList]).controller.activity = .ready :=
  ⟨rfl, rfl, rfl, rfl, rfl, rfl, rfl⟩
/-- A *Continue* at the toy core's address 0. -/
def continuing : DebugHost.Session Nat := ⟨⟨.debugging, [2], some .continue_, .continuing true⟩, 0, []⟩
theorem witness_ContinueEndsAtABreakpointOrAFault :
    continuing.controller.mode = .debugging ∧ continuing.controller.activity = .continuing true ∧
    (∀ m, m < 2 → toy.core.pc (DebugHost.acts toy m continuing).1.core ∉ continuing.controller.breakpoints ∧
      ∃ s' text, toy.core.step (DebugHost.acts toy m continuing).1.core = .executed s' text) ∧
    toy.core.pc (DebugHost.acts toy 2 continuing).1.core ∈ continuing.controller.breakpoints ∧
    toy.core.pc 3 ∉ continuing.controller.breakpoints ∧ toy.core.step 3 = .halted 30 := by
  refine ⟨rfl, rfl, fun m hm => ?_, by decide, by decide, rfl⟩
  obtain rfl | rfl : m = 0 ∨ m = 1 := by omega
  · exact ⟨by decide, 1, _, rfl⟩
  · exact ⟨by decide, 2, _, rfl⟩
theorem witness_BreakpointToggledTwiceIsRestored : (0x151 : Nat) ≠ 0x150 ∧ ∀ a, DebugHost.Command.step ≠ .setBreakpoint a := ⟨by decide, by simp⟩
theorem witness_RegistersArePrintedInHexadecimalAtTheirWidth :
    "Hl".toList.map DebugHost.lower = "hL".toList.map DebugHost.lower := by decide
theorem witness_HostErrorsAreRecovered : DebugHost.parse "b".toList = .error .wrongArity ∧
    (session []).controller.mode = .debugging ∧ (session []).controller.activity = .ready ∧ toy.core.step 3 = .halted 30 :=
  ⟨by decide, rfl, rfl, rfl⟩

end Sys2Proof.Tests
end

/-! # Proofs of the interrupt controller's statements (40_interrupt_controller) -/

namespace Sys2Proof.Proofs

open Sys2Proof Sys2Proof.Machine Sys2Proof.Claims

/-! ## The words of IO operations -/

section Words

variable {i : Instr} {off v : Byte}

/-- A data byte laid over a word whose data is 0x00 is the word's data. -/
theorem withData_busWord (sp : Space) (d : Dir) (off v : Byte) : withData (busWord sp d off 0) v = busWord sp d off v := by
  apply BitVec.eq_of_getLsbD_eq
  intro k hk
  by_cases h : k < 8
  · simp [-BitVec.getLsbD_eq_getElem, withData, busWord_bit, h, hk]
  · simp [-BitVec.getLsbD_eq_getElem, withData, busWord_bit, h, hk, BitVec.getLsbD_of_ge v k (by omega)]

theorem decode_ioReadWord (off : Byte) : decode (ioReadWord off) = iord off := by
  obtain ⟨hsp, hdir, hoff, -⟩ := busWord_fields .io .read off 0
  simp only [ioReadWord, decode, decodeBus, hsp, hdir, hoff]

theorem decode_ioWriteWord (off v : Byte) : decode (ioWriteWord off v) = iowr off v := by
  obtain ⟨hsp, hdir, hoff, hdata⟩ := busWord_fields .io .write off v
  simp only [ioWriteWord, decode, decodeBus, hsp, hdir, hoff, hdata]

/-- The word of an IO read, from the map of 30_encoding R96 at its offset. -/
theorem hasWord_ioRead (hmap : iord off = i) (henc : encode i = ioReadWord off) : HasWord i (busWord .io .read off 0) :=
  ⟨(decode_ioReadWord off).trans hmap, henc⟩

/-- The words of an IO write, from the map of 30_encoding R96 at its offset. -/
theorem hasWord_ioWrite (hmap : iowr off v = i) (henc : encode i = ioWriteWord off v) :
    HasWord i (withData (busWord .io .write off 0) v) := by
  rw [withData_busWord]
  exact ⟨(decode_ioWriteWord off v).trans hmap, henc⟩

end Words

/-! ## Performed operations of a running block -/

section Performed

variable {i : Instr} {s t : State} {c : Csr} {v : Byte}

theorem running_resetWith (p : ResetParams) : Running (State.resetWith p) := rfl

theorem exec_of_returns (hs : Running s) (he : effect i s.csr = .returns v) : exec i s = .next (reading s v) := by
  rw [exec_running hs, he]; rfl

theorem exec_of_writes (hs : Running s) (he : effect i s.csr = .writes c) : exec i s = .next (wrote s c) := by
  rw [exec_running hs, he]; rfl

theorem running_wrote (hs : Running s) (he : effect i s.csr = .writes c) : Running (wrote s c) :=
  (effect_writes_fault he).trans hs

/-- A write that performs, then a read that performs on the block it left. -/
theorem writeThenReadYields_of_effects {wr rd : Instr} (hs : Running s) (hwr : effect wr s.csr = .writes c)
    (hrd : effect rd c = .returns v) : WriteThenReadYields wr rd s v :=
  ⟨wrote s c, reading (wrote s c) v, exec_of_writes hs hwr, exec_of_returns (running_wrote hs hwr) hrd, rfl⟩

/-- What the latch does not hold and no write of `i` changes, `i` leaves as it was, halted or running. -/
theorem exec_keeps {α : Type} (get : Csr → α) (hlatch : ∀ c x, get (c.setFault x) = get c)
    (hwrites : ∀ c', effect i s.csr = .writes c' → get c' = get s.csr) (h : exec i s = .next t) :
    get t.csr = get s.csr := by
  rw [exec_eq_perform] at h
  obtain ⟨-, rfl⟩ | ⟨-, ⟨v, -, rfl⟩ | ⟨c', he, rfl⟩ | ⟨r, -, rfl⟩⟩ := perform_cases h
  · rfl
  · rfl
  · exact hwrites c' he
  · exact hlatch s.csr (some r)

end Performed

/-! ## What a performed write can leave -/

/-- `LeavesBlock i c c'`: the operation `i` is a write or a side-port update, and from the block `c` it leaves `c'`. -/
inductive LeavesBlock : Instr → Csr → Csr → Prop where
  | bank (v : Byte) (c : Csr) : LeavesBlock (.wrP1 v) c (c.setBank (selectBank v c.bank))
  | btn (j : Button) (v : Bool) (c : Csr) : LeavesBlock (.btnSet j v) c (c.setBtn (c.btn.set j v))
  | if_ (v : Byte) (c : Csr) : LeavesBlock (.wrIf v) c (c.setIf (unpack5 v))
  | ie (v : Byte) (c : Csr) : LeavesBlock (.wrIe v) c (c.setIe (unpack5 v))
  | lcdc (v : Byte) (c : Csr) : LeavesBlock (.wrLcdc v) c (c.setLcdc (unpackLcdc v))
  | scy (v : Byte) (c : Csr) : LeavesBlock (.wrScy v) c (c.setScy v)
  | scx (v : Byte) (c : Csr) : LeavesBlock (.wrScx v) c (c.setScx v)
  | ly (v : Byte) (c : Csr) : LeavesBlock (.lySet v) c (c.setLy v)
  | lyc (v : Byte) (c : Csr) : LeavesBlock (.wrLyc v) c (c.setLyc v)
  | bgp (v : Byte) (c : Csr) : LeavesBlock (.wrBgp v) c (c.setBgp (unpackPal v))
  | obp0 (v : Byte) (c : Csr) : LeavesBlock (.wrObp0 v) c (c.setObp0 (unpackPal v))
  | obp1 (v : Byte) (c : Csr) : LeavesBlock (.wrObp1 v) c (c.setObp1 (unpackPal v))
  | wy (v : Byte) (c : Csr) : LeavesBlock (.wrWy v) c (c.setWy v)
  | wx (v : Byte) (c : Csr) : LeavesBlock (.wrWx v) c (c.setWx v)
  | sound (off v : Byte) (c : Csr) : LeavesBlock (.wrSound off v) c c
  | bootOff (v : Byte) (c : Csr) (h : disablesBoot v = true) : LeavesBlock (.wrBoot v) c (c.setBoot false)
  | bootKept (v : Byte) (c : Csr) (h : disablesBoot v = false) : LeavesBlock (.wrBoot v) c c
  | oamY (n : BitVec 6) (v : Byte) (c : Csr) (h : n.toNat < 40) :
      LeavesBlock (.oamWrY n v) c (c.setOam (c.oam.set n.toNat (writeField .y v c.oam[n.toNat]) h))
  | oamX (n : BitVec 6) (v : Byte) (c : Csr) (h : n.toNat < 40) :
      LeavesBlock (.oamWrX n v) c (c.setOam (c.oam.set n.toNat (writeField .x v c.oam[n.toNat]) h))
  | oamTile (n : BitVec 6) (v : Byte) (c : Csr) (h : n.toNat < 40) :
      LeavesBlock (.oamWrTile n v) c (c.setOam (c.oam.set n.toNat (writeField .tile v c.oam[n.toNat]) h))
  | oamAttr (n : BitVec 6) (v : Byte) (c : Csr) (h : n.toNat < 40) :
      LeavesBlock (.oamWrAttr n v) c (c.setOam (c.oam.set n.toNat (writeField .attr v c.oam[n.toNat]) h))

theorem oamRead_ne_writes (n : BitVec 6) (f : SpriteField) (c c' : Csr) : oamRead n f c ≠ .writes c' := by
  by_cases hn : n.toNat < 40
  · simp [oamRead_of_lt hn]
  · simp [oamRead_of_ge (Nat.not_lt.1 hn), oamReadFault]

/-- A sprite table write leaves a block only for one of the 40 entries, and then the block with its one field written. -/
theorem oamWrite_writes {n : BitVec 6} {f : SpriteField} {v : Byte} {c c' : Csr} (h : oamWrite n f v c = .writes c') :
    ∃ hn : n.toNat < 40, c' = c.setOam (c.oam.set n.toNat (writeField f v c.oam[n.toNat]) hn) := by
  by_cases hn : n.toNat < 40
  · rw [oamWrite_of_lt hn, Effect.writes.injEq] at h
    exact ⟨hn, h.symm⟩
  · simp [oamWrite_of_ge (Nat.not_lt.1 hn), oamWriteFault] at h

/-- Inversion of the writing effects: everything a performed operation can leave of the block. -/
theorem leavesBlock_of_writes {i : Instr} {c c' : Csr} (h : effect i c = .writes c') : LeavesBlock i c c' := by
  cases i
  case wrBoot v =>
    cases hv : disablesBoot v <;> simp only [effect, hv, Effect.writes.injEq] at h <;> subst h
    · exact .bootKept v c hv
    · exact .bootOff v c hv
  case oamWrY n v => obtain ⟨hn, rfl⟩ := oamWrite_writes h; exact .oamY n v c hn
  case oamWrX n v => obtain ⟨hn, rfl⟩ := oamWrite_writes h; exact .oamX n v c hn
  case oamWrTile n v => obtain ⟨hn, rfl⟩ := oamWrite_writes h; exact .oamTile n v c hn
  case oamWrAttr n v => obtain ⟨hn, rfl⟩ := oamWrite_writes h; exact .oamAttr n v c hn
  case oamRdY n => exact absurd h (oamRead_ne_writes n .y c c')
  case oamRdX n => exact absurd h (oamRead_ne_writes n .x c c')
  case oamRdTile n => exact absurd h (oamRead_ne_writes n .tile c c')
  case oamRdAttr n => exact absurd h (oamRead_ne_writes n .attr c c')
  -- every other arm is one effect: a read or a fault leaves no block, a write leaves its own.
  all_goals cases h
  all_goals constructor

/-- Only `WR.IF` writes the pending flags (R122). -/
theorem effect_writes_keeps_if {i : Instr} {c c' : Csr} (hi : ∀ v, i ≠ .wrIf v) (h : effect i c = .writes c') :
    c'.if_ = c.if_ := by
  cases leavesBlock_of_writes h
  case if_ v => exact absurd rfl (hi v)
  all_goals rfl

/-! ## `pack5` and `unpack5` (R120) -/

/-- Each bit of `b ? m : 0` (00_scope R7). -/
theorem getLsbD_maskIf (b : Bool) (m : Byte) (i : Nat) : (maskIf b m).getLsbD i = (b && m.getLsbD i) := by
  cases b <;> simp [maskIf]

theorem flag_unpack5 (v : Byte) (k : IrqSource) : (unpack5 v).flag k = v.getLsbD k.bit := by cases k <;> rfl

@[simp] theorem unpack5_pack5 (f : IrqFlags) : unpack5 (pack5 f) = f := by
  obtain ⟨vblank, lcdstat, timer, serial, joypad⟩ := f
  revert vblank lcdstat timer serial joypad
  decide

@[simp] theorem pack5_unpack5 (v : Byte) : pack5 (unpack5 v) = v &&& 0x1F  := by
  apply BitVec.eq_of_getLsbD_eq
  intro i hi
  interval_cases i <;> simp [-BitVec.getLsbD_eq_getElem, pack5, getLsbD_maskIf, unpack5]

theorem pack5_bit (f : IrqFlags) (k : IrqSource) : (pack5 f).getLsbD k.bit = f.flag k := by
  rw [← flag_unpack5, unpack5_pack5]

/-- All five flags clear, as after reset (10_state R21, R22), are the byte 0x00. -/
theorem pack5_clear : pack5 ⟨false, false, false, false, false⟩ = 0x00 := rfl

/-- A packed byte has nothing outside bits 4 to 0. -/
theorem pack5_and_low (f : IrqFlags) : pack5 f &&& 0x1F = pack5 f := by
  rw [← pack5_unpack5, unpack5_pack5]

theorem pack5_and_high (f : IrqFlags) : pack5 f &&& 0xE0 = 0 := by
  rw [← pack5_and_low, BitVec.and_assoc]
  exact BitVec.and_zero

theorem pack5_toNat_le (f : IrqFlags) : (pack5 f).toNat ≤ 0x1F := by
  rw [← pack5_and_low, BitVec.toNat_and]
  exact Nat.and_le_right

/-- Settles O12: `unpack5` reads each source's bit and undoes `pack5`, so `pack5` puts each flag at its bit; the mask law bounds it. -/
theorem interruptFlagsPackBitByBit : Obligations.InterruptFlagsPackBitByBit :=
  ⟨pack5_bit, fun _ => rfl, fun f => ⟨pack5_and_high f, pack5_toNat_le f⟩, flag_unpack5, pack5_unpack5, unpack5_pack5⟩

/-! ## IF (R121, R122) -/

theorem exec_rdIf {s : State} (hs : Running s) : exec .rdIf s = .next (reading s (pack5 s.csr.if_)) :=
  exec_of_returns hs rfl

theorem exec_rdIf_reset (p : ResetParams) :
    exec .rdIf (State.resetWith p) = .next (reading (State.resetWith p) 0x00) :=
  exec_of_returns (running_resetWith p) (congrArg Effect.returns pack5_clear)

theorem exec_wrIf {s : State} (hs : Running s) (v : Byte) : exec (.wrIf v) s = .next (wrote s (s.csr.setIf (unpack5 v))) :=
  exec_of_writes hs rfl

theorem exec_keeps_if {i : Instr} {s t : State} (hi : ∀ v, i ≠ .wrIf v) (h : exec i s = .next t) : t.csr.if_ = s.csr.if_ :=
  exec_keeps Csr.if_ (fun _ _ => rfl) (fun _ => effect_writes_keeps_if hi) h

/-- What `WR.IF` stores, `RD.IF` yields without bits 7, 6 and 5. -/
theorem wrIf_then_rdIf {s : State} (hs : Running s) (v : Byte) : WriteThenReadYields (.wrIf v) .rdIf s (v &&& 0x1F) :=
  writeThenReadYields_of_effects hs rfl (congrArg Effect.returns (pack5_unpack5 v))

/-- Settles O13: the effects of `RD.IF` and `WR.IF`, and that no other operation's effect touches the pending flags. -/
theorem interruptFlagRegisterReadsAndOverwrites : Obligations.InterruptFlagRegisterReadsAndOverwrites := by
  refine ⟨hasWord_ioRead (off := 0x0F) rfl rfl, fun _ => hasWord_ioWrite (off := 0x0F) rfl rfl, fun _ hs => exec_rdIf hs,
    pack5_and_high, exec_rdIf_reset, rfl, fun v _ hs => exec_wrIf hs v, flag_unpack5, unpack5_pack5,
    fun _ hs => ?ignoresHighBits, fun _ _ _ h hi => exec_keeps_if hi h, rfl, fun _ hs => wrIf_then_rdIf hs 0xE5⟩
  case ignoresHighBits =>
    rw [exec_wrIf hs, exec_wrIf hs, show unpack5 0xE0 = unpack5 0x00 from rfl]

/-! ## IE (R123, R124) -/

theorem exec_rdIe {s : State} (hs : Running s) : exec .rdIe s = .next (reading s (pack5 s.csr.ie)) :=
  exec_of_returns hs rfl

theorem exec_rdIe_reset (p : ResetParams) :
    exec .rdIe (State.resetWith p) = .next (reading (State.resetWith p) 0x00) :=
  exec_of_returns (running_resetWith p) (congrArg Effect.returns pack5_clear)

theorem exec_wrIe {s : State} (hs : Running s) (v : Byte) : exec (.wrIe v) s = .next (wrote s (s.csr.setIe (unpack5 v))) :=
  exec_of_writes hs rfl

/-- What `WR.IE` stores, `RD.IE` yields without bits 7, 6 and 5. -/
theorem wrIe_then_rdIe {s : State} (hs : Running s) (v : Byte) : WriteThenReadYields (.wrIe v) .rdIe s (v &&& 0x1F) :=
  writeThenReadYields_of_effects hs rfl (congrArg Effect.returns (pack5_unpack5 v))

/-- Settles O14: the effects of `RD.IE` and `WR.IE`, and the packing laws. -/
theorem interruptEnableRegisterReadsAndOverwrites : Obligations.InterruptEnableRegisterReadsAndOverwrites :=
  ⟨hasWord_ioRead (off := 0xFF) rfl rfl, fun _ => hasWord_ioWrite (off := 0xFF) rfl rfl, fun _ hs => exec_rdIe hs,
    pack5_and_high, exec_rdIe_reset, fun v _ hs => exec_wrIe hs v, flag_unpack5,
    fun _ hs => ⟨wrIe_then_rdIe hs 0x1F, wrIe_then_rdIe hs 0xFF⟩, rfl, rfl⟩

end Sys2Proof.Proofs

/-! # Proofs of the joypad's statements (41_joypad) -/

namespace Sys2Proof.Proofs

open Sys2Proof Sys2Proof.Machine Sys2Proof.Claims

/-! ## The joypad nibble (R141) -/

/-- Bit `k` of the nibble is the flag of the selected bank's button `k` (10_state R24). -/
theorem packJoypad_bit (bank : Bank) (b : Buttons) {k : Nat} (hk : k < 4) :
    (packJoypad bank b).getLsbD k = b.get (buttonOf (BitVec.ofNat 3 (4 * bank.index + k))) := by
  cases bank <;> interval_cases k <;>
    simp [-BitVec.getLsbD_eq_getElem, packJoypad, getLsbD_maskIf, Bank.index, buttonOf, Buttons.get]

/-- A joypad byte has nothing outside bits 3 to 0. -/
theorem packJoypad_and_low (bank : Bank) (b : Buttons) : packJoypad bank b &&& 0x0F = packJoypad bank b := by
  apply BitVec.eq_of_getLsbD_eq
  intro i hi
  cases bank <;> interval_cases i <;> simp [-BitVec.getLsbD_eq_getElem, packJoypad, getLsbD_maskIf]

theorem packJoypad_toNat_le (bank : Bank) (b : Buttons) : (packJoypad bank b).toNat ≤ 0x0F := by
  rw [← packJoypad_and_low, BitVec.toNat_and]
  exact Nat.and_le_right

/-! ## P1 (R141) -/

theorem exec_rdP1 {s : State} (hs : Running s) : exec .rdP1 s = .next (reading s (packJoypad s.csr.bank s.csr.btn)) :=
  exec_of_returns hs rfl

/-- Settles O16: the effect of `RD.P1`, whose byte is the selected bank's nibble. -/
theorem joypadReadShowsTheSelectedBank : Obligations.JoypadReadShowsTheSelectedBank := by
  refine ⟨hasWord_ioRead (off := 0x00) rfl rfl,
    fun _ hs => ⟨_, exec_rdP1 hs, packJoypad_toNat_le _ _, fun _ hk => packJoypad_bit _ _ hk⟩,
    fun _ hs hbank => ?direction, fun _ hs hbank => ?buttons⟩
  case direction => rw [exec_rdP1 hs, hbank]; rfl
  case buttons => rw [exec_rdP1 hs, hbank]; rfl

end Sys2Proof.Proofs

/-! # Proofs of the PPU registers' statements (42_ppu_registers) -/

namespace Sys2Proof.Proofs

open Sys2Proof Sys2Proof.Machine Sys2Proof.Claims

/-! ## A register's read and its write -/

section Register

variable {off : Byte}

/-- A read that the map of 30_encoding R96 puts at `off` and whose effect is to return `byte`. -/
theorem ioRead_register {rd : Instr} {byte : Csr → Byte} (hmap : iord off = rd) (henc : encode rd = ioReadWord off)
    (heff : ∀ c, effect rd c = .returns (byte c)) :
    HasWord rd (busWord .io .read off 0) ∧ ∀ s, Running s → exec rd s = .next (reading s (byte s.csr)) :=
  ⟨hasWord_ioRead hmap henc, fun s hs => exec_of_returns hs (heff s.csr)⟩

/-- A write that the map of 30_encoding R96 puts at `off` and whose effect is to leave the block `store v`. -/
theorem ioWrite_register {wr : Byte → Instr} {store : Csr → Byte → Csr} (hmap : ∀ v, iowr off v = wr v)
    (henc : ∀ v, encode (wr v) = ioWriteWord off v) (heff : ∀ v c, effect (wr v) c = .writes (store c v)) (v : Byte) :
    HasWord (wr v) (withData (busWord .io .write off 0) v) ∧
      ∀ s, Running s → exec (wr v) s = .next (wrote s (store s.csr v)) :=
  ⟨hasWord_ioWrite (hmap v) (henc v), fun s hs => exec_of_writes hs (heff v s.csr)⟩

end Register

/-! ## SCY, SCX, LYC, WY and WX (R163 to R166, R170, R171, R178 to R181) -/

/-- The first offset past the PPU window belongs to no register (44 R228). -/
theorem decode_write_past_window (v : Byte) : decode (.bus (withData (busWord .io .write 0x4C 0) v)) = .wrUnimpl 0x4C v := by
  rw [withData_busWord]
  exact decode_ioWriteWord 0x4C v

/-- Settles O21: each register's read returns its field and its write stores into that field, both at the register's offset. -/
theorem plainByteRegistersReadAndStore : Obligations.PlainByteRegistersReadAndStore :=
  ⟨ioRead_register (off := 0x42) rfl rfl fun _ => rfl,
    ioWrite_register (off := 0x42) (store := Csr.setScy) (fun _ => rfl) (fun _ => rfl) fun _ _ => rfl,
    ioRead_register (off := 0x43) rfl rfl fun _ => rfl,
    ioWrite_register (off := 0x43) (store := Csr.setScx) (fun _ => rfl) (fun _ => rfl) fun _ _ => rfl,
    ioRead_register (off := 0x45) rfl rfl fun _ => rfl,
    ioWrite_register (off := 0x45) (store := Csr.setLyc) (fun _ => rfl) (fun _ => rfl) fun _ _ => rfl,
    ioRead_register (off := 0x4A) rfl rfl fun _ => rfl,
    ioWrite_register (off := 0x4A) (store := Csr.setWy) (fun _ => rfl) (fun _ => rfl) fun _ _ => rfl,
    ioRead_register (off := 0x4B) rfl rfl fun _ => rfl,
    ioWrite_register (off := 0x4B) (store := Csr.setWx) (fun _ => rfl) (fun _ => rfl) fun _ _ => rfl,
    decode_write_past_window,
    fun _ _ hs => ⟨writeThenReadYields_of_effects hs rfl rfl, writeThenReadYields_of_effects hs rfl rfl,
      writeThenReadYields_of_effects hs rfl rfl, writeThenReadYields_of_effects hs rfl rfl,
      writeThenReadYields_of_effects hs rfl rfl⟩⟩

/-! ## LY (R167, R169) -/

theorem exec_rdLy {s : State} (hs : Running s) : exec .rdLy s = .next (reading s s.csr.ly) :=
  exec_of_returns hs rfl

/-- Only `LY.SET` writes the line counter (R169). -/
theorem effect_writes_keeps_ly {i : Instr} {c c' : Csr} (hi : ∀ v, i ≠ .lySet v) (h : effect i c = .writes c') :
    c'.ly = c.ly := by
  cases leavesBlock_of_writes h
  case ly v => exact absurd rfl (hi v)
  all_goals rfl

theorem exec_keeps_ly {i : Instr} {s t : State} (hi : ∀ v, i ≠ .lySet v) (h : exec i s = .next t) : t.csr.ly = s.csr.ly :=
  exec_keeps Csr.ly (fun _ _ => rfl) (fun _ => effect_writes_keeps_ly hi) h

/-- Settles O22: `RD.LY` returns the counter, and no effect but that of `LY.SET` touches it. -/
theorem lineCounterReadsWhatTheRasterizerLeft : Obligations.LineCounterReadsWhatTheRasterizerLeft :=
  ⟨hasWord_ioRead (off := 0x44) rfl rfl, fun _ hs => exec_rdLy hs, fun p => exec_rdLy (running_resetWith p),
    fun _ _ hs => writeThenReadYields_of_effects hs rfl rfl, fun _ _ _ h hi => exec_keeps_ly hi h⟩

/-! ## `pack_pal` and `unpack_pal` (R182) -/

/-- A bit pair of a byte, widened, is the byte shifted down to it and masked. -/
theorem setWidth_bitPair (v : Byte) (k : Nat) : (v.extractLsb' k 2).setWidth 8 = (v >>> k) &&& 3 := by
  apply BitVec.eq_of_getLsbD_eq
  intro i hi
  interval_cases i <;> simp [-BitVec.getLsbD_eq_getElem]

/-- A code placed at bit `k`, above everything that `x` holds, adds `2 ^ k` times its value: the OR of disjoint fields is a sum. -/
theorem toNat_or_code {x : Byte} {k : Nat} (e : BitVec 2) (hk : k ≤ 6) (hx : x.toNat < 2 ^ k) :
    (x ||| e.setWidth 8 <<< k).toNat = x.toNat + 2 ^ k * e.toNat := by
  have hfits : e.toNat * 2 ^ k < 2 ^ 8 :=
    calc e.toNat * 2 ^ k < 2 ^ 2 * 2 ^ k := Nat.mul_lt_mul_of_pos_right e.isLt (Nat.two_pow_pos k)
      _ = 2 ^ (2 + k) := (Nat.pow_add 2 2 k).symm
      _ ≤ 2 ^ 8 := Nat.pow_le_pow_right (by decide) (by omega)
  have hcode : (e.setWidth 8 <<< k).toNat = e.toNat <<< k := by
    rw [BitVec.toNat_shiftLeft, BitVec.toNat_setWidth_of_le (by decide), Nat.shiftLeft_eq, Nat.mod_eq_of_lt hfits]
  rw [BitVec.toNat_or, hcode, Nat.or_comm, ← Nat.shiftLeft_add_eq_or_of_lt hx, Nat.shiftLeft_eq, Nat.mul_comm, Nat.add_comm]

theorem toNat_packPal (p : Palette) :
    (packPal p).toNat = p.e0.toNat + 4 * p.e1.toNat + 16 * p.e2.toNat + 64 * p.e3.toNat := by
  have h0 : (p.e0.setWidth 8).toNat = p.e0.toNat := BitVec.toNat_setWidth_of_le (by decide)
  have h1 := toNat_or_code (x := p.e0.setWidth 8) (k := 2) p.e1 (by decide) (by omega)
  have h2 := toNat_or_code (k := 4) p.e2 (by decide) (h1.trans_lt (by omega))
  have h3 := toNat_or_code (k := 6) p.e3 (by decide) (h2.trans_lt (by omega))
  simp only [packPal, h3, h2, h1, h0, Nat.reducePow]

/-- Settles O25: each entry is the bit pair at its place, and packing is the sum of four disjoint fields. -/
theorem palettePackingSplitsIntoBitPairs : Obligations.PalettePackingSplitsIntoBitPairs :=
  ⟨fun v => ⟨setWidth_bitPair v 0, setWidth_bitPair v 2, setWidth_bitPair v 4, setWidth_bitPair v 6⟩, toNat_packPal, rfl⟩

/-! ## BGP, OBP0 and OBP1 (R172 to R177) -/

/-- Settles O27: each palette's read packs its field and its write unpacks into that field, both at the register's offset. -/
theorem paletteRegistersReadAndUnpack : Obligations.PaletteRegistersReadAndUnpack :=
  ⟨ioRead_register (off := 0x47) rfl rfl fun _ => rfl,
    ioWrite_register (off := 0x47) (store := fun c v => c.setBgp (unpackPal v)) (fun _ => rfl) (fun _ => rfl) fun _ _ => rfl,
    ioRead_register (off := 0x48) rfl rfl fun _ => rfl,
    ioWrite_register (off := 0x48) (store := fun c v => c.setObp0 (unpackPal v)) (fun _ => rfl) (fun _ => rfl) fun _ _ => rfl,
    ioRead_register (off := 0x49) rfl rfl fun _ => rfl,
    ioWrite_register (off := 0x49) (store := fun c v => c.setObp1 (unpackPal v)) (fun _ => rfl) (fun _ => rfl) fun _ _ => rfl,
    rfl, rfl, rfl, rfl, rfl, rfl⟩

end Sys2Proof.Proofs

/-! # Proofs of the sprite attribute table's statements (43_sprite_attribute_table) -/

namespace Sys2Proof.Proofs

open Sys2Proof Sys2Proof.Machine Sys2Proof.Claims

/-! ## The words of attribute table writes -/

/-- An offset laid over a word whose offset and data are 0x00 is the word's offset. -/
theorem atOffset_busWord (sp : Space) (d : Dir) (off : Byte) : atOffset (busWord sp d 0 0) off = busWord sp d off 0 := by
  apply BitVec.eq_of_getLsbD_eq
  intro k hk
  by_cases hdata : k < 8
  · simp [-BitVec.getLsbD_eq_getElem, atOffset, busWord_bit, hdata]
  by_cases hoff : k < 16
  · simp [-BitVec.getLsbD_eq_getElem, atOffset, busWord_bit, hdata, hoff, hk, show k - 8 < 18 by omega]
  · simp [-BitVec.getLsbD_eq_getElem, atOffset, busWord_bit, hdata, hoff, BitVec.getLsbD_of_ge off (k - 8) (by omega)]

theorem decode_oamWriteWord (off v : Byte) : decode (oamWriteWord off v) = oamwr off v := by
  obtain ⟨hsp, hdir, hoff, hdata⟩ := busWord_fields .oam .write off v
  simp only [oamWriteWord, decode, decodeBus, hsp, hdir, hoff, hdata]

/-! ## The four writes as one operation over the field (R200) -/

section OamWriteAt

variable {n : BitVec 6}

/-- The write of `v` into field `f` of entry `n`: `OAM.WR.Y`, `OAM.WR.X`, `OAM.WR.TILE` or `OAM.WR.ATTR`. -/
def oamWriteAt (n : BitVec 6) (f : SpriteField) (v : Byte) : Instr :=
  match f with
  | .y    => .oamWrY n v
  | .x    => .oamWrX n v
  | .tile => .oamWrTile n v
  | .attr => .oamWrAttr n v

theorem encode_oamWriteAt (n : BitVec 6) (f : SpriteField) (v : Byte) :
    encode (oamWriteAt n f v) = oamWriteWord (oamOffset n f) v := by cases f <;> rfl

theorem effect_oamWriteAt (n : BitVec 6) (f : SpriteField) (v : Byte) (c : Csr) :
    effect (oamWriteAt n f v) c = oamWrite n f v c := by cases f <;> rfl

/-- The map of 30_encoding R96 at the offset of a field of one of the 40 entries. -/
theorem oamwr_oamOffset (hn : n.toNat < 40) (f : SpriteField) (v : Byte) : oamwr (oamOffset n f) v = oamWriteAt n f v := by
  obtain ⟨hentry, hfield⟩ := oamOffset_fields n f
  have hin : isEntry n = true := decide_eq_true hn
  simp only [oamwr, hentry, hfield, hin, if_true]
  cases f <;> rfl

theorem hasWord_oamWriteAt (hn : n.toNat < 40) (f : SpriteField) (v : Byte) :
    HasWord (oamWriteAt n f v) (withData (atOffset 0x30000 (oamOffset n f)) v) := by
  have hword : withData (atOffset 0x30000 (oamOffset n f)) v = busWord .oam .write (oamOffset n f) v := by
    rw [show (0x30000 : BitVec 18) = busWord .oam .write 0 0 from rfl, atOffset_busWord, withData_busWord]
  rw [hword]
  exact ⟨(decode_oamWriteWord _ v).trans (oamwr_oamOffset hn f v), encode_oamWriteAt n f v⟩

theorem exec_oamWriteAt (hn : n.toNat < 40) (f : SpriteField) (v : Byte) {s : State} (hs : Running s) :
    exec (oamWriteAt n f v) s =
      .next (wrote s (s.csr.setOam (s.csr.oam.set n.toNat (writeField f v s.csr.oam[n.toNat]) hn))) :=
  exec_of_writes hs ((effect_oamWriteAt n f v s.csr).trans (oamWrite_of_lt hn f v s.csr))

end OamWriteAt

/-! ## Y, X and the tile (R202, R204, R206) -/

/-- Settles O30: the word and the effect of a field's write, at the three fields that hold a whole byte. -/
theorem spriteWritesStoreTheField : Obligations.SpriteWritesStoreTheField :=
  ⟨fun _ v hn => ⟨hasWord_oamWriteAt hn .y v, hasWord_oamWriteAt hn .x v, hasWord_oamWriteAt hn .tile v,
    fun _ hs => ⟨exec_oamWriteAt hn .y v hs, exec_oamWriteAt hn .x v hs, exec_oamWriteAt hn .tile v hs⟩⟩,
    rfl, rfl, rfl⟩

end Sys2Proof.Proofs

/-! # Proofs of the register file's statements (44_register_file_dispatch) -/

namespace Sys2Proof.Proofs

open Sys2Proof Sys2Proof.Machine Sys2Proof.Claims

/-! ## IO writes at an offset -/

section IoWrite

variable {i : Instr} {off v : Byte}

/-- The words of an IO write at any offset `off`, from the map of 30_encoding R96. -/
theorem hasWord_ioWrite_atOffset (hmap : iowr off v = i) (henc : encode i = ioWriteWord off v) :
    HasWord i (withData (atOffset 0x10000 off) v) := by
  rw [show (0x10000 : BitVec 18) = busWord .io .write 0 0 from rfl, atOffset_busWord]
  exact hasWord_ioWrite hmap henc

theorem decode_ioWrite (off v : Byte) : decode (.bus (withData (busWord .io .write off 0) v)) = iowr off v := by
  rw [withData_busWord]
  exact decode_ioWriteWord off v

/-- No register of the map lies in the sound range (R222). -/
theorem iowr_sound (hlow : 0x10 ≤ off.toNat) (hhigh : off.toNat ≤ 0x26) : iowr off v = .wrSound off v := by
  have hin : inSoundRange off = true := decide_eq_true ⟨hlow, hhigh⟩
  unfold iowr
  split
  case h_17 => exact if_pos hin
  all_goals omega

end IoWrite

/-! ## The sound stub (R222) -/

theorem exec_wrSound {s : State} (hs : Running s) (off v : Byte) : exec (.wrSound off v) s = .next (wrote s s.csr) :=
  exec_of_writes hs rfl

/-- Settles O34: the map at the sound range, and the effect of `WR.SOUND`, which leaves the block it finds. -/
theorem soundWritesAreDiscarded : Obligations.SoundWritesAreDiscarded :=
  ⟨fun off v hlow hhigh => ⟨hasWord_ioWrite_atOffset (iowr_sound hlow hhigh) rfl, fun _ hs => exec_wrSound hs off v⟩,
    decode_ioWrite 0x27, rfl, rfl⟩

/-! ## The boot control (R224) -/

theorem disablesBoot_iff (v : Byte) : disablesBoot v = true ↔ v ≠ 0 := decide_eq_true_iff

theorem exec_wrBoot_nonzero {v : Byte} {s : State} (hs : Running s) (hv : v ≠ 0) :
    exec (.wrBoot v) s = .next (wrote s (s.csr.setBoot false)) := by
  have hoff : disablesBoot v = true := (disablesBoot_iff v).2 hv
  exact exec_of_writes hs (congrArg Effect.writes (if_pos hoff))

theorem exec_wrBoot_zero {s : State} (hs : Running s) : exec (.wrBoot 0) s = .next (wrote s s.csr) :=
  exec_of_writes hs rfl

/-- A performed write keeps the boot flag or clears it; none sets it. -/
theorem effect_writes_boot {i : Instr} {c c' : Csr} (h : effect i c = .writes c') : c'.boot = c.boot ∨ c'.boot = false := by
  cases leavesBlock_of_writes h
  case bootOff => exact .inr rfl
  all_goals exact .inl rfl

/-- Nothing but reset enables the overlay. -/
theorem exec_keeps_boot_disabled {i : Instr} {s t : State} (h : exec i s = .next t) (hboot : s.csr.boot = false) :
    t.csr.boot = false := by
  have hkept : t.csr.boot = s.csr.boot := exec_keeps Csr.boot (fun _ _ => rfl)
    (fun _ he => (effect_writes_boot he).elim id fun hcleared => hcleared.trans hboot.symm) h
  exact hkept.trans hboot

/-- Settles O36: the effect of `WR.BOOT` by whether its byte is zero, and that no effect sets the flag. -/
theorem bootWriteDisablesTheOverlayOnce : Obligations.BootWriteDisablesTheOverlayOnce := by
  refine ⟨fun _ => hasWord_ioWrite (off := 0x50) rfl rfl, fun _ _ hs hv => exec_wrBoot_nonzero hs hv,
    fun _ hs => exec_wrBoot_zero hs, fun s t hs h => ?example01, fun _ _ _ => exec_keeps_boot_disabled⟩
  case example01 =>
    rw [exec_wrBoot_nonzero hs (by decide)] at h
    cases h
    rfl

end Sys2Proof.Proofs

/-! # Proofs of the debugger host's statements (60_exceptions) -/

namespace Sys2Proof.Proofs

open Sys2Proof Sys2Proof.DebugHost Sys2Proof.Claims

/-! ## Toggling an address (R274) -/

section Toggle

variable (a x : Nat) (bps : List Nat)

theorem mem_toggle_self : a ∈ toggle a bps ↔ a ∉ bps := by
  unfold toggle
  by_cases ha : a ∈ bps
  · simp [ha]
  · simp [ha]

variable {a x} in
theorem mem_toggle_of_ne (hx : x ≠ a) : x ∈ toggle a bps ↔ x ∈ bps := by
  unfold toggle
  by_cases ha : a ∈ bps
  · simp [ha, hx]
  · simp [ha, hx]

theorem mem_toggle_toggle : x ∈ toggle a (toggle a bps) ↔ x ∈ bps := by
  by_cases hx : x = a
  · subst hx
    rw [mem_toggle_self, mem_toggle_self, not_not]
  · rw [mem_toggle_of_ne _ hx, mem_toggle_of_ne _ hx]

end Toggle

/-! ## The breakpoint set of a controller (R274) -/

section Breakpoints

variable {σ : Type} (h : Setup σ) (k : Controller) (s : σ)

theorem execute_breakpoints : (execute h k s).1.breakpoints = k.breakpoints := by
  obtain ⟨s', text, -, hex⟩ | ⟨s', -, hex⟩ := execute_cases h k s
  · rw [hex]
  · rw [hex]
    rfl

theorem continueOnce_breakpoints (check : Bool) : (continueOnce h k s check).1.breakpoints = k.breakpoints := by
  unfold continueOnce
  split
  case isTrue => rfl
  case isFalse => exact execute_breakpoints h _ s

theorem freeRun_breakpoints : (freeRun h k s).1.breakpoints = k.breakpoints := by
  unfold freeRun
  cases h.core.run h.runUntil s <;> rfl

variable {c : Command} in
/-- No command but `b` changes the set. -/
theorem runCommand_breakpoints (hc : ∀ a, c ≠ .setBreakpoint a) : (runCommand h k s c).1.breakpoints = k.breakpoints := by
  cases c with
  | setBreakpoint a => exact absurd rfl (hc a)
  | step => exact execute_breakpoints h k s
  | continue_ | printRegister _ | printCpuRegs | disassemble _ | quit | lastCommand => rfl

/-- A later breakpoint set is the earlier one or the earlier one with an address toggled. -/
def KeptOrToggled (old new : List Nat) : Prop := new = old ∨ ∃ a, new = toggle a old

theorem runCommand_keptOrToggled (c : Command) : KeptOrToggled k.breakpoints (runCommand h k s c).1.breakpoints := by
  by_cases hc : ∃ a, c = .setBreakpoint a
  · obtain ⟨a, rfl⟩ := hc
    exact .inr ⟨a, rfl⟩
  · exact .inl (runCommand_breakpoints h k s (not_exists.1 hc))

theorem runLine_keptOrToggled (line : List Char) : KeptOrToggled k.breakpoints (runLine h k s line).1.breakpoints := by
  unfold runLine
  split
  case h_1 => exact .inl rfl
  case h_2 => exact .inl rfl
  case h_3 c _ _ => exact runCommand_keptOrToggled h k s c

theorem takeInput_keptOrToggled (i : Input) : KeptOrToggled k.breakpoints (takeInput h k s i).1.breakpoints := by
  cases i with
  | line text => exact runLine_keptOrToggled h k s text
  | failure => exact .inl rfl

/-- An action toggles an address only by an item of the input it takes. -/
theorem act_keptOrToggled (x : Session σ) : KeptOrToggled x.controller.breakpoints (act h x).1.controller.breakpoints := by
  unfold act
  split
  case h_1 => exact .inl rfl
  case h_2 => exact .inl (freeRun_breakpoints h x.controller x.core)
  case h_3 => exact .inl (freeRun_breakpoints h x.controller x.core)
  case h_4 check _ _ => exact .inl (continueOnce_breakpoints h x.controller x.core check)
  case h_5 =>
    split
    case h_1 => exact .inl rfl
    case h_2 i _ _ => exact takeInput_keptOrToggled h x.controller x.core i

end Breakpoints

/-- Settles O58: membership after a toggle, what each command does to the set, and what each kind of action does to it. -/
theorem breakpointToggledTwiceIsRestored : Obligations.BreakpointToggledTwiceIsRestored :=
  ⟨fun a bps => ⟨mem_toggle_self a bps, fun _ => mem_toggle_of_ne bps, fun x => mem_toggle_toggle a x bps⟩,
    fun _ h k s => ⟨fun _ => rfl, fun _ => runCommand_breakpoints h k s⟩,
    fun _ => act_keptOrToggled, fun _ => rfl, by decide, by decide⟩

end Sys2Proof.Proofs

/-! # Proofs of the encoding's statements (30_encoding) -/

namespace Sys2Proof.Proofs

open Sys2Proof Sys2Proof.Machine Sys2Proof.Claims

/-! ## Words and accesses -/

theorem decode_oamReadWord (off : Byte) : decode (oamReadWord off) = oamrd off := by
  obtain ⟨hsp, hdir, hoff, -⟩ := busWord_fields .oam .read off 0
  simp only [oamReadWord, decode, decodeBus, hsp, hdir, hoff]

/-- The mask 0x3FF00 clears a word's data and nothing else. -/
theorem busWord_and_mask (sp : Space) (d : Dir) (off v : Byte) : busWord sp d off v &&& 0x3FF00 = busWord sp d off 0 := by
  have hmask : ∀ i, i < 18 → (0x3FF00 : BitVec 18).getLsbD i = decide (8 ≤ i) := by decide
  apply BitVec.eq_of_getLsbD_eq
  intro i hi
  rw [BitVec.getLsbD_and, hmask i hi, busWord_bit, busWord_bit]
  by_cases hdata : i < 8
  · simp [-BitVec.getLsbD_eq_getElem, hdata]
  · simp [-BitVec.getLsbD_eq_getElem, hdata, Nat.not_lt.1 hdata]

theorem masked_eq_busWord (w : BitVec 18) : w &&& 0x3FF00 = busWord (busSpace w) (busDir w) (busOff w) 0 := by
  conv => lhs; rw [← busWord_eta w]
  exact busWord_and_mask _ _ _ _

/-! ## The IO map (30_encoding R96) -/

/-- `IoMap off rd wr`: at the IO offset `off` the map has the read `rd` and, for each byte, the write `wr`. -/
inductive IoMap : Byte → Instr → (Byte → Instr) → Prop where
  | p1 : IoMap 0x00 .rdP1 .wrP1
  | if_ : IoMap 0x0F .rdIf .wrIf
  | lcdc : IoMap 0x40 .rdLcdc .wrLcdc
  | ppu41 : IoMap 0x41 .rdPpu41 .wrPpu41
  | scy : IoMap 0x42 .rdScy .wrScy
  | scx : IoMap 0x43 .rdScx .wrScx
  | ly : IoMap 0x44 .rdLy .wrLy
  | lyc : IoMap 0x45 .rdLyc .wrLyc
  | ppu46 : IoMap 0x46 .rdPpu46 .wrPpu46
  | bgp : IoMap 0x47 .rdBgp .wrBgp
  | obp0 : IoMap 0x48 .rdObp0 .wrObp0
  | obp1 : IoMap 0x49 .rdObp1 .wrObp1
  | wy : IoMap 0x4A .rdWy .wrWy
  | wx : IoMap 0x4B .rdWx .wrWx
  | boot : IoMap 0x50 .rdBoot .wrBoot
  | ie : IoMap 0xFF .rdIe .wrIe
  | sound (off : Byte) (h : inSoundRange off = true) : IoMap off (.rdSound off) (.wrSound off)
  | unimplemented (off : Byte) (h : inUnimplemented off = true) : IoMap off (.rdUnimpl off) (.wrUnimpl off)

theorem not_inSoundRange_of_inUnimplemented {off : Byte} (h : inUnimplemented off = true) : ¬ inSoundRange off = true := by
  simp only [inUnimplemented, decide_eq_true_eq] at h
  simp only [inSoundRange, decide_eq_true_eq]
  omega

theorem iord_sound {off : Byte} (h : inSoundRange off = true) : iord off = .rdSound off := by
  obtain ⟨hlow, hhigh⟩ := of_decide_eq_true h
  unfold iord
  split
  case h_17 => exact if_pos h
  all_goals omega

theorem iord_unimplemented {off : Byte} (h : inUnimplemented off = true) : iord off = .rdUnimpl off := by
  have hsound := not_inSoundRange_of_inUnimplemented h
  have hoff := of_decide_eq_true h
  unfold iord
  split
  case h_17 => exact if_neg hsound
  all_goals omega

theorem iowr_unimplemented {off : Byte} (h : inUnimplemented off = true) (v : Byte) : iowr off v = .wrUnimpl off v := by
  have hsound := not_inSoundRange_of_inUnimplemented h
  have hoff := of_decide_eq_true h
  unfold iowr
  split
  case h_17 => exact if_neg hsound
  all_goals omega

/-- The offsets of the 16 registers: what neither the sound range nor the unimplemented set has. -/
theorem register_offset {off : Byte} (hsound : ¬ inSoundRange off = true) (hunimpl : ¬ inUnimplemented off = true) :
    off = 0x00 ∨ off = 0x0F ∨ off = 0x40 ∨ off = 0x41 ∨ off = 0x42 ∨ off = 0x43 ∨ off = 0x44 ∨ off = 0x45 ∨ off = 0x46 ∨
      off = 0x47 ∨ off = 0x48 ∨ off = 0x49 ∨ off = 0x4A ∨ off = 0x4B ∨ off = 0x50 ∨ off = 0xFF := by
  simp only [inSoundRange, decide_eq_true_eq] at hsound
  simp only [inUnimplemented, decide_eq_true_eq] at hunimpl
  bv_omega

/-- The map has an entry at every offset, and `iord` and `iowr` are its two columns. -/
theorem ioMap (off : Byte) : IoMap off (iord off) (iowr off) := by
  by_cases hsound : inSoundRange off = true
  · obtain ⟨hlow, hhigh⟩ := of_decide_eq_true hsound
    have hwr : iowr off = .wrSound off := funext fun _ => iowr_sound hlow hhigh
    rw [iord_sound hsound, hwr]
    exact .sound off hsound
  by_cases hunimpl : inUnimplemented off = true
  · have hwr : iowr off = .wrUnimpl off := funext (iowr_unimplemented hunimpl)
    rw [iord_unimplemented hunimpl, hwr]
    exact .unimplemented off hunimpl
  · obtain rfl | rfl | rfl | rfl | rfl | rfl | rfl | rfl | rfl | rfl | rfl | rfl | rfl | rfl | rfl | rfl :=
      register_offset hsound hunimpl
    all_goals constructor

/-! ## The attribute table's map (30_encoding R96) -/

/-- The read of field `f` of entry `n`: `OAM.RD.Y`, `OAM.RD.X`, `OAM.RD.TILE` or `OAM.RD.ATTR`. -/
def oamReadAt (n : BitVec 6) (f : SpriteField) : Instr :=
  match f with
  | .y    => .oamRdY n
  | .x    => .oamRdX n
  | .tile => .oamRdTile n
  | .attr => .oamRdAttr n

/-- `OamMap off rd wr`: at the attribute table offset `off` the map has the read `rd` and, for each byte, the write `wr`. -/
inductive OamMap : Byte → Instr → (Byte → Instr) → Prop where
  | field (n : BitVec 6) (f : SpriteField) (hn : n.toNat < 40) : OamMap (oamOffset n f) (oamReadAt n f) (oamWriteAt n f)
  | outside (off : Byte) (h : outOfTable off = true) : OamMap off (.oamRdOor off) (.oamWrOor off)

theorem bits_oamField (off : Byte) : (oamField off).bits = off.extractLsb' 0 2 := by
  apply BitVec.eq_of_getLsbD_eq
  intro i hi
  unfold oamField
  cases h1 : off.getLsbD 1 <;> cases h0 : off.getLsbD 0 <;> interval_cases i <;>
    simp [-BitVec.getLsbD_eq_getElem, SpriteField.bits, h0, h1]

theorem oamOffset_entry_field (off : Byte) : oamOffset (oamEntry off) (oamField off) = off := by
  rw [oamOffset, bits_oamField, oamEntry]
  apply BitVec.eq_of_getLsbD_eq
  intro i hi
  rw [BitVec.getLsbD_append]
  by_cases hfield : i < 2
  · simp [-BitVec.getLsbD_eq_getElem, hfield]
  · simp [-BitVec.getLsbD_eq_getElem, hfield, show i - 2 < 6 by omega, show 2 + (i - 2) = i by omega]

theorem toNat_oamEntry (off : Byte) : (oamEntry off).toNat = off.toNat / 4 := by
  rw [oamEntry, BitVec.extractLsb'_toNat, Nat.shiftRight_eq_div_pow]
  omega

theorem isEntry_oamEntry (off : Byte) : isEntry (oamEntry off) = !outOfTable off := by
  rw [isEntry, outOfTable, toNat_oamEntry, ← decide_not, decide_eq_decide]
  omega

theorem oamrd_oamOffset {n : BitVec 6} (hn : n.toNat < 40) (f : SpriteField) : oamrd (oamOffset n f) = oamReadAt n f := by
  obtain ⟨hentry, hfield⟩ := oamOffset_fields n f
  have hin : isEntry n = true := decide_eq_true hn
  simp only [oamrd, hentry, hfield, hin, if_true]
  cases f <;> rfl

theorem oamrd_outside {off : Byte} (h : outOfTable off = true) : oamrd off = .oamRdOor off :=
  if_neg (by simp [isEntry_oamEntry, h])

theorem oamwr_outside {off : Byte} (h : outOfTable off = true) (v : Byte) : oamwr off v = .oamWrOor off v :=
  if_neg (by simp [isEntry_oamEntry, h])

/-- The map has an entry at every offset, and `oamrd` and `oamwr` are its two columns. -/
theorem oamMap (off : Byte) : OamMap off (oamrd off) (oamwr off) := by
  by_cases hout : outOfTable off = true
  · rw [oamrd_outside hout, show oamwr off = .oamWrOor off from funext (oamwr_outside hout)]
    exact .outside off hout
  · have hn : (oamEntry off).toNat < 40 := by simpa [isEntry, hout] using isEntry_oamEntry off
    have hwr : oamwr (oamOffset (oamEntry off) (oamField off)) = oamWriteAt (oamEntry off) (oamField off) :=
      funext (oamwr_oamOffset hn _)
    rw [← oamOffset_entry_field off, oamrd_oamOffset hn, hwr]
    exact .field _ _ hn

/-! ## Encoding what a word decodes to -/

theorem IoMap.read_encodes {off : Byte} {rd : Instr} {wr : Byte → Instr} (h : IoMap off rd wr) :
    rd.wellFormed = true ∧ encode rd = ioReadWord off := by
  cases h
  case sound hin => exact ⟨hin, rfl⟩
  case unimplemented hin => exact ⟨hin, rfl⟩
  all_goals exact ⟨rfl, rfl⟩

theorem IoMap.write_encodes {off : Byte} {rd : Instr} {wr : Byte → Instr} (h : IoMap off rd wr) (v : Byte) :
    (wr v).wellFormed = true ∧ encode (wr v) = ioWriteWord off v := by
  cases h
  case sound hin => exact ⟨hin, rfl⟩
  case unimplemented hin => exact ⟨hin, rfl⟩
  all_goals exact ⟨rfl, rfl⟩

theorem OamMap.read_encodes {off : Byte} {rd : Instr} {wr : Byte → Instr} (h : OamMap off rd wr) :
    rd.wellFormed = true ∧ encode rd = oamReadWord off := by
  cases h with
  | field n f hn =>
    have hin : isEntry n = true := decide_eq_true hn
    cases f <;> exact ⟨hin, rfl⟩
  | outside _ hout => exact ⟨hout, rfl⟩

theorem OamMap.write_encodes {off : Byte} {rd : Instr} {wr : Byte → Instr} (h : OamMap off rd wr) (v : Byte) :
    (wr v).wellFormed = true ∧ encode (wr v) = oamWriteWord off v := by
  cases h with
  | field n f hn =>
    have hin : isEntry n = true := decide_eq_true hn
    cases f <;> exact ⟨hin, rfl⟩
  | outside _ hout => exact ⟨hout, rfl⟩

theorem encode_decodeBus_busWord (sp : Space) (d : Dir) (off v : Byte) :
    (decodeBus (busWord sp d off v)).wellFormed = true ∧
      encode (decodeBus (busWord sp d off v)) = canonical (.bus (busWord sp d off v)) := by
  obtain ⟨hsp, hdir, hoff, hdata⟩ := busWord_fields sp d off v
  cases sp <;> cases d <;>
    simp only [canonical, decodeBus, hsp, hdir, hoff, hdata, busWord_and_mask, if_true, reduceCtorEq, if_false]
  · exact (ioMap off).read_encodes
  · exact (ioMap off).write_encodes v
  · exact (oamMap off).read_encodes
  · exact (oamMap off).write_encodes v

theorem index_buttonOf (w : BitVec 4) : (buttonOf (w.extractLsb' 1 3)).index ++ BitVec.ofBool (w.getLsbD 0) = w := by
  have h : ∀ k : Fin (2 ^ 4), (buttonOf ((BitVec.ofFin k).extractLsb' 1 3)).index ++ BitVec.ofBool ((BitVec.ofFin k).getLsbD 0) =
      BitVec.ofFin k := by decide
  exact h w.toFin

/-- Settles O2: for a bus word by the entry the map has at its offset, for a side port's word by its bits. -/
theorem encodeOfDecodeIsTheCanonicalWord : Obligations.EncodeOfDecodeIsTheCanonicalWord := by
  intro w
  cases w with
  | bus w =>
    rw [← busWord_eta w]
    exact encode_decodeBus_busWord _ _ _ _
  | input w => exact ⟨rfl, congrArg OpWord.input (index_buttonOf w)⟩
  | raster w => exact ⟨rfl, rfl⟩

/-! ## Decoding what an operation encodes to -/

theorem decode_input_index (j : Button) (v : Bool) : decode (.input (j.index ++ BitVec.ofBool v)) = .btnSet j v := by
  cases j <;> cases v <;> rfl

theorem decode_oamReadWord_oamOffset {n : BitVec 6} (h : isEntry n = true) (f : SpriteField) :
    decode (oamReadWord (oamOffset n f)) = oamReadAt n f :=
  (decode_oamReadWord _).trans (oamrd_oamOffset (of_decide_eq_true h) f)

theorem decode_oamWriteWord_oamOffset {n : BitVec 6} (h : isEntry n = true) (f : SpriteField) (v : Byte) :
    decode (oamWriteWord (oamOffset n f) v) = oamWriteAt n f v :=
  (decode_oamWriteWord _ v).trans (oamwr_oamOffset (of_decide_eq_true h) f v)

/-- Settles O1: the map at the offset of each operation's word, where well-formedness gives the range of the offset or the entry. -/
theorem decodeOfEncodeIsTheOperation : Obligations.DecodeOfEncodeIsTheOperation := by
  intro i hwf
  cases i with
  | rdSound off => exact (decode_ioReadWord off).trans (iord_sound hwf)
  | wrSound off v =>
    obtain ⟨hlow, hhigh⟩ := of_decide_eq_true hwf
    exact (decode_ioWriteWord off v).trans (iowr_sound hlow hhigh)
  | rdUnimpl off => exact (decode_ioReadWord off).trans (iord_unimplemented hwf)
  | wrUnimpl off v => exact (decode_ioWriteWord off v).trans (iowr_unimplemented hwf v)
  | oamRdY n => exact decode_oamReadWord_oamOffset hwf .y
  | oamRdX n => exact decode_oamReadWord_oamOffset hwf .x
  | oamRdTile n => exact decode_oamReadWord_oamOffset hwf .tile
  | oamRdAttr n => exact decode_oamReadWord_oamOffset hwf .attr
  | oamWrY n v => exact decode_oamWriteWord_oamOffset hwf .y v
  | oamWrX n v => exact decode_oamWriteWord_oamOffset hwf .x v
  | oamWrTile n v => exact decode_oamWriteWord_oamOffset hwf .tile v
  | oamWrAttr n v => exact decode_oamWriteWord_oamOffset hwf .attr v
  | oamRdOor off => exact (decode_oamReadWord off).trans (oamrd_outside hwf)
  | oamWrOor off v => exact (decode_oamWriteWord off v).trans (oamwr_outside hwf v)
  | btnSet j v => exact decode_input_index j v
  | lySet v => rfl
  | rdP1 | rdIf | rdLcdc | rdPpu41 | rdScy | rdScx | rdLy | rdLyc | rdPpu46 | rdBgp | rdObp0 | rdObp1 | rdWy | rdWx
  | rdBoot | rdIe => exact decode_ioReadWord _
  | wrP1 v | wrIf v | wrLcdc v | wrPpu41 v | wrScy v | wrScx v | wrLy v | wrLyc v | wrPpu46 v | wrBgp v | wrObp0 v
  | wrObp1 v | wrWy v | wrWx v | wrBoot v | wrIe v => exact decode_ioWriteWord _ v

/-! ## The table's rows (30_encoding R95) -/

/-- The rows for one space and one direction. -/
def rowsOf (sp : Space) (d : Dir) : List OpcodeRow := busRows.filter fun r => busSpace r.pattern = sp ∧ busDir r.pattern = d

/-- No row looks at a word's data, and every row at its space and direction. -/
theorem mask_of_mem_busRows : ∀ r ∈ busRows, 0x3FF00 &&& r.mask = r.mask ∧ r.mask.getLsbD 17 = true ∧ r.mask.getLsbD 16 = true := by
  decide

theorem matches_masked {r : OpcodeRow} (hr : r ∈ busRows) (w : BitVec 18) : r.matches (w &&& 0x3FF00) = r.matches w := by
  obtain ⟨hdata, -, -⟩ := mask_of_mem_busRows r hr
  rw [OpcodeRow.matches, OpcodeRow.matches, BitVec.and_assoc, hdata]

theorem pattern_of_matches {r : OpcodeRow} (hr : r ∈ busRows) {w : BitVec 18} (h : r.matches w = true) :
    busSpace r.pattern = busSpace w ∧ busDir r.pattern = busDir w := by
  obtain ⟨-, hspace, hdir⟩ := mask_of_mem_busRows r hr
  rw [← of_decide_eq_true h, busSpace, busSpace, busDir, busDir, BitVec.getLsbD_and, BitVec.getLsbD_and, hspace, hdir, Bool.and_true,
    Bool.and_true]
  exact ⟨rfl, rfl⟩

/-- The rows that match a word, found among those of its space and direction and without its data. -/
theorem filter_matches (w : BitVec 18) :
    busRows.filter (fun r => r.matches w) = (rowsOf (busSpace w) (busDir w)).filter fun r => r.matches (w &&& 0x3FF00) := by
  rw [rowsOf, List.filter_filter]
  refine List.filter_congr fun r hr => ?_
  rw [matches_masked hr]
  cases h : r.matches w with
  | false => rfl
  | true => simp [pattern_of_matches hr h]

/-- Which operation a write is does not depend on its data. -/
theorem IoMap.mnemonic_write {off : Byte} {rd : Instr} {wr : Byte → Instr} (h : IoMap off rd wr) (v u : Byte) :
    (wr v).mnemonic = (wr u).mnemonic := by
  cases h <;> rfl

theorem OamMap.mnemonic_write {off : Byte} {rd : Instr} {wr : Byte → Instr} (h : OamMap off rd wr) (v u : Byte) :
    (wr v).mnemonic = (wr u).mnemonic := by
  cases h with
  | field n f hn => cases f <;> rfl
  | outside _ hout => rfl

theorem mnemonic_decodeBus_masked (w : BitVec 18) : (decodeBus (w &&& 0x3FF00)).mnemonic = (decodeBus w).mnemonic := by
  obtain ⟨hsp, hdir, hoff, hdata⟩ := busWord_fields (busSpace w) (busDir w) (busOff w) 0
  rw [masked_eq_busWord, decodeBus, decodeBus, hsp, hdir, hoff, hdata]
  cases busSpace w <;> cases busDir w
  · rfl
  · exact (ioMap _).mnemonic_write _ _
  · rfl
  · exact (oamMap _).mnemonic_write _ _

/-- The check of the table against the map: at each of the 256 offsets of each space and direction. -/
theorem matching_rows (sp : Space) (d : Dir) (off : Byte) :
    ((rowsOf sp d).filter fun r => r.matches (busWord sp d off 0)).map OpcodeRow.mnemonic =
      [(decodeBus (busWord sp d off 0)).mnemonic] := by
  revert off
  cases sp <;> cases d <;> exact byte_forall (by decide +kernel)

/-- Settles O3: the rows do not look at the data, and without it the table is checked at every offset. -/
theorem exactlyOneTableRowMatchesEachWord : Obligations.ExactlyOneTableRowMatchesEachWord := by
  intro w
  have hrow := matching_rows (busSpace w) (busDir w) (busOff w)
  rw [← masked_eq_busWord, mnemonic_decodeBus_masked, ← filter_matches, List.map_eq_singleton_iff] at hrow
  exact hrow

/-! ## Words, the map and the unimplemented set -/

/-- Settles O4: the decoder, run on each word. -/
theorem exampleWordsDecode : Obligations.ExampleWordsDecode := by
  unfold Obligations.ExampleWordsDecode
  decide

theorem decode_read_masked {w : BitVec 18} (h : busDir w = .read) : decode (.bus (w &&& 0x3FF00)) = decode (.bus w) := by
  obtain ⟨hsp, hdir, hoff, -⟩ := busWord_fields (busSpace w) .read (busOff w) 0
  rw [masked_eq_busWord, h]
  simp only [decode, decodeBus, hsp, hdir, hoff, h]
  cases busSpace w <;> rfl

theorem busDir_masked (w : BitVec 18) : busDir (w &&& 0x3FF00) = busDir w := by
  obtain ⟨-, hdir, -, -⟩ := busWord_fields (busSpace w) (busDir w) (busOff w) 0
  rw [masked_eq_busWord, hdir]

/-- Settles O5: a read decodes as the word with its data masked off, which the two words share. -/
theorem readDataIsIgnored : Obligations.ReadDataIsIgnored := by
  intro w u hw hmask
  have hu : busDir u = .read := by rw [← busDir_masked, ← hmask, busDir_masked, hw]
  rw [← decode_read_masked hw, hmask, decode_read_masked hu]

/-- Settles O6: each word is made of the fields that the decoder takes from it. -/
theorem pseudoOperationsExpandByTheMap : Obligations.PseudoOperationsExpandByTheMap :=
  ⟨decode_ioReadWord, decode_ioWriteWord, decode_oamReadWord, decode_oamWriteWord, rfl, rfl⟩

theorem IoMap.unimplemented_iff {off : Byte} {rd : Instr} {wr : Byte → Instr} (h : IoMap off rd wr) :
    (inUnimplemented off = true ↔ rd = .rdUnimpl off) ∧ ∀ v, inUnimplemented off = true ↔ wr v = .wrUnimpl off v := by
  cases h
  case sound hin =>
    have hout : ¬ inUnimplemented off = true := fun h => not_inSoundRange_of_inUnimplemented h hin
    simp [hout]
  case unimplemented hin => simp [hin]
  all_goals simp [inUnimplemented]

/-- Settles O7: the map names the unimplemented operations at the offsets of the set and at no other. -/
theorem unimplementedSetIsTheRestOfThePage : Obligations.UnimplementedSetIsTheRestOfThePage := by
  refine ⟨fun off => (ioMap off).unimplemented_iff.1, fun off => (ioMap off).unimplemented_iff.2, ?_⟩
  decide +kernel

/-! ## The assembler (30_encoding R99) -/

theorem form0_ok {i j : Instr} {ops : List (List Char)} (h : form0 i ops = .ok j) : j = i := by
  cases ops with
  | nil => exact (Except.ok.inj h).symm
  | cons a as => cases h

theorem form1_ok {k : Nat} {f : BitVec k → Instr} {ops : List (List Char)} {j : Instr} (h : form1 f ops = .ok j) :
    ∃ x, j = f x := by
  unfold form1 at h
  split at h
  · rename_i a
    cases hx : bits? k a <;> simp [hx, Except.map] at h
    exact ⟨_, h.symm⟩
  · cases h

theorem form2_ok {k : Nat} {f : BitVec k → Byte → Instr} {ops : List (List Char)} {j : Instr} (h : form2 f ops = .ok j) :
    ∃ x v, j = f x v := by
  unfold form2 at h
  split at h
  · rename_i a b
    cases hx : bits? k a <;> cases hv : bits? 8 b <;> simp [hx, hv, Except.map, Except.bind] at h
    exact ⟨_, _, h.symm⟩
  · cases h

theorem formBtn_ok {ops : List (List Char)} {i : Instr} (h : formBtn ops = .ok i) : ∃ j v, i = .btnSet j v := by
  unfold formBtn at h
  split at h
  · rename_i a b
    cases hj : button? a <;> cases hv : flag? b <;> simp [hj, hv, Except.map, Except.bind] at h
    exact ⟨_, _, h.symm⟩
  · cases h

/-- The form of a mnemonic gives operations of that mnemonic. -/
theorem mnemonic_of_form {m : Mnemonic} {ops : List (List Char)} {i : Instr} (h : m.form ops = .ok i) : i.mnemonic = m := by
  cases m with
  | rdP1 | rdIf | rdLcdc | rdPpu41 | rdScy | rdScx | rdLy | rdLyc | rdPpu46 | rdBgp | rdObp0 | rdObp1 | rdWy | rdWx
  | rdBoot | rdIe => rw [form0_ok h]; rfl
  | wrSound | wrUnimpl | oamWrY | oamWrX | oamWrTile | oamWrAttr | oamWrOor => obtain ⟨x, v, rfl⟩ := form2_ok h; rfl
  | btnSet => obtain ⟨j, v, rfl⟩ := formBtn_ok h; rfl
  | wrP1 | wrIf | wrLcdc | wrPpu41 | wrScy | wrScx | wrLy | wrLyc | wrPpu46 | wrBgp | wrObp0 | wrObp1 | wrWy | wrWx
  | wrBoot | wrIe | rdSound | rdUnimpl | oamRdY | oamRdX | oamRdTile | oamRdAttr | oamRdOor | lySet =>
    obtain ⟨x, rfl⟩ := form1_ok h; rfl

theorem assembleAs_ok {m : Mnemonic} {ops : List (List Char)} {i : Instr} (h : assembleAs m ops = .ok i) :
    i.wellFormed = true ∧ i.mnemonic = m := by
  unfold assembleAs at h
  cases hform : m.form ops with
  | error e => rw [hform] at h; cases h
  | ok j =>
    cases hwf : j.wellFormed <;> simp [hform, Except.bind, hwf] at h
    subst h
    exact ⟨hwf, mnemonic_of_form hform⟩

theorem bits_of_number {text : List Char} {x : Nat} (k : Nat) (h : number? text = some x) :
    bits? k text = if x < 2 ^ k then .ok (BitVec.ofNat k x) else .error .operandOutOfRange := by
  simp only [bits?, h]

theorem flag_of_number {text : List Char} {x : Nat} (h : number? text = some x) :
    flag? text = if x < 2 then .ok (decide (x = 1)) else .error .operandOutOfRange := by
  match x with
  | 0 => simp [flag?, h]
  | 1 => simp [flag?, h]
  | x + 2 => simp [flag?, h]

/-- Settles O8: a line that is accepted has passed the range check and came from its mnemonic's form; a number is never wrapped. -/
theorem assemblerRefusesOutOfRangeOperands : Obligations.AssemblerRefusesOutOfRangeOperands :=
  ⟨fun _ _ _ => assembleAs_ok, fun k _ _ => bits_of_number k, fun _ _ => flag_of_number, by decide, by decide⟩

end Sys2Proof.Proofs

/-! # Proofs of the fault statements (60_exceptions, 70_reset_and_hazards) -/

namespace Sys2Proof.Proofs

open Sys2Proof Sys2Proof.Machine Sys2Proof.Claims

/-! ## The step (20_memory R68) -/

theorem step_of_pending_cons {s : State} {w : OpWord} {ws : List OpWord} (h : s.pending = w :: ws) :
    step s = exec (decode w) (s.setPending ws) := by
  simp only [step, State.fetch_cons h]

theorem step_of_pending_nil {s : State} (h : s.pending = []) : step s = .next s := by
  simp only [step, State.fetch_nil s h]

/-- Settles O9: what `fetch` takes off, the step runs. -/
theorem stepRunsTheOldestPresentedWord : Obligations.StepRunsTheOldestPresentedWord :=
  ⟨fun _ _ _ => step_of_pending_cons, fun _ => step_of_pending_nil⟩

theorem step_present (s : State) (w : OpWord) : step (s.present w) = exec (decode w) s := by
  simp only [step, State.fetch_present]

/-- Settles O10: the table's number is the word that is presented. -/
theorem placedTableWordRunsNext : Obligations.PlacedTableWordRunsNext := by
  intro s nbits w i h
  unfold decodeTableWord decodeNat at h
  unfold State.withFetchWord
  cases hw : OpWord.ofNat (tableFormat nbits w) w with
  | error e => simp [hw, Except.map] at h
  | ok op =>
    have hi : decode op = i := by simpa [hw, Except.map] using h
    rw [← hi]
    exact step_present s op

theorem exec_next (i : Instr) (s : State) : ∃ t, exec i s = .next t := ⟨_, exec_eq_perform i s⟩

/-- Settles O11: an operation is one `perform`, which answers a next state, and a step is an operation or idle. -/
theorem everyStepAnswersANextState : Obligations.EveryStepAnswersANextState := by
  refine ⟨exec_next, fun s => ?_⟩
  cases h : s.pending with
  | nil => exact ⟨s, step_of_pending_nil h⟩
  | cons w ws => exact step_of_pending_cons h ▸ exec_next (decode w) _

/-! ## What an operation can do -/

/-- Everything an operation can do: not performed while halted; else its effect returns a byte, leaves a block or faults. -/
theorem exec_cases {i : Instr} {s t : State} (h : exec i s = .next t) :
    (s.csr.fault ≠ none ∧ t = notPerformed s) ∨
    (Running s ∧ ((∃ v, effect i s.csr = .returns v ∧ t = reading s v) ∨ (∃ c, effect i s.csr = .writes c ∧ t = wrote s c) ∨
      (∃ r, effect i s.csr = .raises r ∧ t = faulted s r))) :=
  perform_cases (exec_eq_perform i s ▸ h)

theorem exec_of_raises {i : Instr} {s : State} {r : FaultRecord} (hs : Running s) (he : effect i s.csr = .raises r) :
    exec i s = .next (faulted s r) := by
  rw [exec_running hs, he]; rfl

theorem exec_of_halted {i : Instr} {s : State} {r : FaultRecord} (hs : s.csr.fault = some r) :
    exec i s = .next (notPerformed s) := by
  rw [exec_eq_perform, perform_halted hs]

/-- Settles O38: a halted block performs nothing. -/
theorem nothingIsPerformedWhileHalted : Obligations.NothingIsPerformedWhileHalted :=
  fun _ _ _ hs => exec_of_halted hs

/-- Settles O39: a byte returned and a block left keep the empty latch, so a record is that of the operation's own fault. -/
theorem faultsChangeOnlyTheLatch : Obligations.FaultsChangeOnlyTheLatch := by
  intro i s t r hs h hr
  obtain ⟨hhalt, -⟩ | ⟨-, ⟨v, -, rfl⟩ | ⟨c, he, rfl⟩ | ⟨r', -, rfl⟩⟩ := exec_cases h
  · exact absurd hs hhalt
  · exact nomatch hs.symm.trans hr
  · exact nomatch (running_wrote hs he).symm.trans hr
  · rw [Option.some.inj hr]

/-! ## What a presented word can do (60 R250, 70 R306) -/

/-- The words software must avoid, by their fields (70 R306). -/
def avoidedAccess : Space → Dir → Byte → Bool
  | .io,  .read,  off => !accessibleIo off || inSoundRange off || decide (off.toNat = 0x50)
  | .io,  .write, off => !accessibleIo off || decide (off.toNat = 0x44)
  | .oam, _,      off => outOfTable off

theorem avoided_busWord (sp : Space) (d : Dir) (off v : Byte) :
    OpWord.avoided (.bus (busWord sp d off v)) = avoidedAccess sp d off := by
  obtain ⟨hsp, hdir, hoff, -⟩ := busWord_fields sp d off v
  simp only [OpWord.avoided, hsp, hdir, hoff]
  cases sp <;> cases d <;> rfl

/-- The record of an access: the data on a write only (60 R250). -/
def accessRecord (k : FaultKind) (sp : Space) (d : Dir) (off v : Byte) : FaultRecord :=
  ⟨k, sp, off, d, if d = .write then some v else none⟩

/-- `AccessEffect sp d off v e`: `e` is an effect an access may have. One to be avoided faults, with a legal record of the access;
any other read returns a byte and any other write leaves a block. -/
inductive AccessEffect : Space → Dir → Byte → Byte → Effect → Prop where
  | returns {sp : Space} {off : Byte} (v u : Byte) (h : avoidedAccess sp .read off = false) : AccessEffect sp .read off v (.returns u)
  | writes {sp : Space} {off : Byte} (v : Byte) (c : Csr) (h : avoidedAccess sp .write off = false) :
      AccessEffect sp .write off v (.writes c)
  | raises {sp : Space} {d : Dir} {off v : Byte} (k : FaultKind) (h : avoidedAccess sp d off = true)
      (hlegal : FaultRecord.legal (accessRecord k sp d off v) = true) : AccessEffect sp d off v (.raises (accessRecord k sp d off v))

theorem accessibleIo_of_inSoundRange {off : Byte} (h : inSoundRange off = true) : accessibleIo off = true := by
  simp only [inSoundRange, decide_eq_true_eq] at h
  simp only [accessibleIo, decide_eq_true_eq]
  omega

theorem accessibleIo_of_inUnimplemented {off : Byte} (h : inUnimplemented off = true) : accessibleIo off = false := by
  simp only [inUnimplemented, decide_eq_true_eq] at h
  simp only [accessibleIo, decide_eq_false_iff_not]
  omega

theorem IoMap.read_effect {off : Byte} {rd : Instr} {wr : Byte → Instr} (h : IoMap off rd wr) (v : Byte) (c : Csr) :
    AccessEffect .io .read off v (effect rd c) := by
  cases h with
  | ppu41 | ppu46 => exact .raises .unimplementedPpuRegister rfl rfl
  | boot => exact .raises .writeOnlyRead rfl rfl
  | sound _ h => exact .raises .writeOnlyRead (by simp [avoidedAccess, h]) (by simp [accessRecord, FaultRecord.legal, h])
  | unimplemented _ h =>
    exact .raises .unimplementedIO (by simp [avoidedAccess, accessibleIo_of_inUnimplemented h])
      (by simp [accessRecord, FaultRecord.legal, h])
  | p1 | if_ | lcdc | scy | scx | ly | lyc | bgp | obp0 | obp1 | wy | wx | ie => exact .returns v _ rfl

theorem IoMap.write_effect {off : Byte} {rd : Instr} {wr : Byte → Instr} (h : IoMap off rd wr) (v : Byte) (c : Csr) :
    AccessEffect .io .write off v (effect (wr v) c) := by
  cases h with
  | ppu41 | ppu46 => exact .raises .unimplementedPpuRegister rfl rfl
  | ly => exact .raises .readOnlyWrite rfl rfl
  | sound _ h =>
    have hly : off.toNat ≠ 0x44 := by have := of_decide_eq_true h; omega
    exact .writes v _ (by simp [avoidedAccess, accessibleIo_of_inSoundRange h, hly])
  | unimplemented _ h =>
    exact .raises .unimplementedIO (by simp [avoidedAccess, accessibleIo_of_inUnimplemented h])
      (by simp [accessRecord, FaultRecord.legal, h])
  | p1 | if_ | lcdc | scy | scx | lyc | bgp | obp0 | obp1 | wy | wx | boot | ie => exact .writes v _ rfl

theorem effect_oamReadAt (n : BitVec 6) (f : SpriteField) (c : Csr) : effect (oamReadAt n f) c = oamRead n f c := by cases f <;> rfl

theorem outOfTable_oamOffset {n : BitVec 6} (hn : n.toNat < 40) (f : SpriteField) : outOfTable (oamOffset n f) = false := by
  have h := isEntry_oamEntry (oamOffset n f)
  rw [(oamOffset_fields n f).1, show isEntry n = true from decide_eq_true hn] at h
  simpa using h

theorem OamMap.read_effect {off : Byte} {rd : Instr} {wr : Byte → Instr} (h : OamMap off rd wr) (v : Byte) (c : Csr) :
    AccessEffect .oam .read off v (effect rd c) := by
  cases h with
  | field n f hn =>
    rw [effect_oamReadAt, oamRead_of_lt hn]
    exact .returns v _ (outOfTable_oamOffset hn f)
  | outside _ h => exact .raises .oamOffsetOutOfRange h (by simp [accessRecord, FaultRecord.legal, h])

theorem OamMap.write_effect {off : Byte} {rd : Instr} {wr : Byte → Instr} (h : OamMap off rd wr) (v : Byte) (c : Csr) :
    AccessEffect .oam .write off v (effect (wr v) c) := by
  cases h with
  | field n f hn =>
    rw [effect_oamWriteAt, oamWrite_of_lt hn]
    exact .writes v _ (outOfTable_oamOffset hn f)
  | outside _ h => exact .raises .oamOffsetOutOfRange h (by simp [accessRecord, FaultRecord.legal, h])

/-- `WordEffect w e`: `e` is an effect the presented word `w` may have; a side port's word leaves a block. -/
inductive WordEffect : OpWord → Effect → Prop where
  | access {e : Effect} (sp : Space) (d : Dir) (off v : Byte) (h : AccessEffect sp d off v e) : WordEffect (.bus (busWord sp d off v)) e
  | input (w : BitVec 4) (c : Csr) : WordEffect (.input w) (.writes c)
  | raster (w : BitVec 8) (c : Csr) : WordEffect (.raster w) (.writes c)

theorem effect_decodeBus (sp : Space) (d : Dir) (off v : Byte) (c : Csr) :
    AccessEffect sp d off v (effect (decodeBus (busWord sp d off v)) c) := by
  obtain ⟨hsp, hdir, hoff, hdata⟩ := busWord_fields sp d off v
  rw [decodeBus, hsp, hdir, hoff, hdata]
  cases sp <;> cases d
  · exact (ioMap off).read_effect v c
  · exact (ioMap off).write_effect v c
  · exact (oamMap off).read_effect v c
  · exact (oamMap off).write_effect v c

theorem effect_decode (w : OpWord) (c : Csr) : WordEffect w (effect (decode w) c) := by
  cases w with
  | bus w =>
    rw [← busWord_eta w]
    exact .access _ _ _ _ (effect_decodeBus _ _ _ _ c)
  | input w => exact .input w _
  | raster w => exact .raster w _

/-! ## The fault an effect takes -/

/-- The record an effect raises, if it does. -/
def raisedBy : Effect → Option FaultRecord
  | .raises r => some r
  | _ => none

/-- The byte an effect returns, if it does. -/
def returnedBy : Effect → Option Byte
  | .returns v => some v
  | _ => none

theorem exec_running_edges {i : Instr} {s t : State} (hs : Running s) (h : exec i s = .next t) :
    t.csr.fault = raisedBy (effect i s.csr) ∧ t.rdata = returnedBy (effect i s.csr) := by
  obtain ⟨hhalt, -⟩ | ⟨-, ⟨v, he, rfl⟩ | ⟨c, he, rfl⟩ | ⟨r', he, rfl⟩⟩ := exec_cases h
  · exact absurd hs hhalt
  · rw [he]; exact ⟨hs, rfl⟩
  · rw [he]; exact ⟨running_wrote hs he, rfl⟩
  · rw [he]; exact ⟨rfl, rfl⟩

/-- A word to be avoided, and no other, raises a fault. -/
theorem WordEffect.avoided_eq {w : OpWord} {e : Effect} (h : WordEffect w e) : w.avoided = (raisedBy e).isSome := by
  cases h with
  | access sp d off v h =>
    rw [avoided_busWord]
    cases h with
    | returns _ u h => exact h
    | writes _ c h => exact h
    | raises k h hlegal => exact h
  | input w c => rfl
  | raster w c => rfl

/-- Settles O40: a word's effect raises a fault exactly on the words to be avoided, whatever the block. -/
theorem exactlyTheAvoidedWordsFault : Obligations.ExactlyTheAvoidedWordsFault := by
  intro w s t hs h
  rw [(exec_running_edges hs h).1, (effect_decode w s.csr).avoided_eq, ← Option.isSome_iff_ne_none]

theorem AccessEffect.record_eq {sp : Space} {d : Dir} {off v : Byte} {e : Effect} {r : FaultRecord} (h : AccessEffect sp d off v e)
    (hr : raisedBy e = some r) : ∃ k, r = accessRecord k sp d off v := by
  cases h with
  | returns _ u h => cases hr
  | writes _ c h => cases hr
  | raises k h hlegal => exact ⟨k, (Option.some.inj hr).symm⟩

/-- Settles O41: a bus word's effect raises nothing but a record of its own access. -/
theorem faultRecordsNameTheOperation : Obligations.FaultRecordsNameTheOperation := by
  intro w s t r hs h hr
  rw [(exec_running_edges hs h).1, decode, ← busWord_eta w] at hr
  obtain ⟨k, rfl⟩ := (effect_decodeBus _ _ _ _ s.csr).record_eq hr
  exact ⟨rfl, rfl, rfl, rfl⟩

/-- A byte is returned exactly by a read that is not to be avoided. -/
theorem WordEffect.returned_iff {w : OpWord} {e : Effect} (h : WordEffect w e) :
    (returnedBy e).isSome = true ↔ w.avoided = false ∧ ∃ b, w = .bus b ∧ busDir b = .read := by
  cases h with
  | access sp d off v h =>
    obtain ⟨-, hdir, -, -⟩ := busWord_fields sp d off v
    rw [avoided_busWord]
    cases h with
    | returns _ u h => simp [returnedBy, h, hdir]
    | writes _ c h => simp [returnedBy, hdir]
    | raises k h hlegal => simp [returnedBy, h]
  | input w c => simp [returnedBy]
  | raster w c => simp [returnedBy]

/-- Settles O42: a halted block returns nothing, a running one what the word's effect does. -/
theorem dataIsReturnedExactlyByPerformedReads : Obligations.DataIsReturnedExactlyByPerformedReads := by
  intro w s t h
  cases hs : s.csr.fault with
  | none => rw [(exec_running_edges hs h).2, (effect_decode w s.csr).returned_iff]; simp [Running, hs]
  | some r =>
    rw [exec_of_halted hs] at h
    cases h
    simp [Running, hs]

/-! ## The fault latch (60 R250, R262) -/

theorem WordEffect.legal {w : OpWord} {e : Effect} {r : FaultRecord} (h : WordEffect w e) (hr : raisedBy e = some r) :
    FaultRecord.legal r = true := by
  cases h with
  | access sp d off v h =>
    cases h with
    | returns _ u h => cases hr
    | writes _ c h => cases hr
    | raises k h hlegal => cases hr; exact hlegal
  | input w c => cases hr
  | raster w c => cases hr

theorem exec_decode_keeps_latchLegal {w : OpWord} {s t : State} (hs : LatchLegal s) (h : exec (decode w) s = .next t) :
    LatchLegal t ∧ ∀ r, s.csr.fault = some r → t.csr.fault = some r := by
  cases hf : s.csr.fault with
  | none =>
    refine ⟨fun r hr => ?_, nofun⟩
    rw [(exec_running_edges hf h).1] at hr
    exact (effect_decode w s.csr).legal hr
  | some r =>
    rw [exec_of_halted hf] at h
    cases h
    exact ⟨hs, fun _ hr => hf.trans hr⟩

theorem step_keeps_latchLegal {s t : State} (hs : LatchLegal s) (h : step s = .next t) :
    LatchLegal t ∧ ∀ r, s.csr.fault = some r → t.csr.fault = some r := by
  cases hp : s.pending with
  | nil =>
    rw [step_of_pending_nil hp] at h
    cases h
    exact ⟨hs, fun _ hr => hr⟩
  | cons w ws =>
    rw [step_of_pending_cons hp] at h
    exact exec_decode_keeps_latchLegal (s := s.setPending ws) hs h

theorem kind_of_legal {r : FaultRecord} (h : FaultRecord.legal r = true) : r.kind ≠ .invalidPackedValue := by
  intro hk
  simp [FaultRecord.legal, hk] at h

/-- Settles O43: a step performs a presented word, whose record is legal, or keeps the latch; no legal record has code 6. -/
theorem stepKeepsTheFaultLatchLegal : Obligations.StepKeepsTheFaultLatchLegal := by
  intro s t hs h
  obtain ⟨hlegal, hkept⟩ := step_keeps_latchLegal hs h
  exact ⟨hlegal, hkept, fun r hr => kind_of_legal (hlegal r hr)⟩

/-- Settles O44: after reset the latch is empty. -/
theorem resetLatchIsLegal : Obligations.ResetLatchIsLegal := fun _ _ hr => nomatch hr

end Sys2Proof.Proofs

/-! # Proofs of the remaining register statements (40_interrupt_controller to 44_register_file_dispatch) -/

namespace Sys2Proof.Proofs

open Sys2Proof Sys2Proof.Machine Sys2Proof.Claims

/-! ## The interrupt flags cause nothing (D23) -/

/-- A block with other interrupt flags. -/
def withFlags (c : Csr) (ie pending : IrqFlags) : Csr := { c with ie := ie, if_ := pending }

/-- Two effects that differ only in the interrupt flags of the block they leave. -/
inductive AgreeButFlags : Effect → Effect → Prop where
  | returns (v : Byte) : AgreeButFlags (.returns v) (.returns v)
  | writes (c : Csr) (ie pending : IrqFlags) : AgreeButFlags (.writes c) (.writes (withFlags c ie pending))
  | raises (r : FaultRecord) : AgreeButFlags (.raises r) (.raises r)

theorem oamRead_withFlags (n : BitVec 6) (f : SpriteField) (c : Csr) (ie pending : IrqFlags) :
    AgreeButFlags (oamRead n f c) (oamRead n f (withFlags c ie pending)) := by
  by_cases hn : n.toNat < 40
  · rw [oamRead_of_lt hn, oamRead_of_lt hn]; exact .returns _
  · rw [oamRead_of_ge (Nat.not_lt.1 hn), oamRead_of_ge (Nat.not_lt.1 hn)]; exact .raises _

theorem oamWrite_withFlags (n : BitVec 6) (f : SpriteField) (v : Byte) (c : Csr) (ie pending : IrqFlags) :
    AgreeButFlags (oamWrite n f v c) (oamWrite n f v (withFlags c ie pending)) := by
  by_cases hn : n.toNat < 40
  · rw [oamWrite_of_lt hn, oamWrite_of_lt hn]; exact .writes _ ie pending
  · rw [oamWrite_of_ge (Nat.not_lt.1 hn), oamWrite_of_ge (Nat.not_lt.1 hn)]; exact .raises _

/-- Every operation but the two reads of the flags has the same effect whatever the flags are. -/
theorem effect_withFlags {i : Instr} (hif : i ≠ .rdIf) (hie : i ≠ .rdIe) (c : Csr) (ie pending : IrqFlags) :
    AgreeButFlags (effect i c) (effect i (withFlags c ie pending)) := by
  cases i with
  | rdIf => exact absurd rfl hif
  | rdIe => exact absurd rfl hie
  | rdP1 | rdLcdc | rdScy | rdScx | rdLy | rdLyc | rdBgp | rdObp0 | rdObp1 | rdWy | rdWx => exact .returns _
  | wrIf v => exact .writes _ ie (unpack5 v)
  | wrIe v => exact .writes _ (unpack5 v) pending
  | wrP1 _ | wrLcdc _ | wrScy _ | wrScx _ | wrLyc _ | wrBgp _ | wrObp0 _ | wrObp1 _ | wrWy _ | wrWx _ | wrSound _ _ | btnSet _ _
  | lySet _ => exact .writes _ ie pending
  | wrBoot v => simp only [effect]; split <;> exact .writes _ ie pending
  | oamRdY n | oamRdX n | oamRdTile n | oamRdAttr n => exact oamRead_withFlags n _ c ie pending
  | oamWrY n v | oamWrX n v | oamWrTile n v | oamWrAttr n v => exact oamWrite_withFlags n _ v c ie pending
  | rdPpu41 | wrPpu41 _ | wrLy _ | rdPpu46 | wrPpu46 _ | rdBoot | rdSound _ | rdUnimpl _ | wrUnimpl _ _ | oamRdOor _
  | oamWrOor _ _ => exact .raises _

/-- A read of the flags changes nothing. -/
theorem exec_read_flags {i : Instr} (hi : i = .rdIf ∨ i = .rdIe) {s t : State} (h : exec i s = .next t) :
    t.csr = s.csr ∧ t.pending = s.pending := by
  obtain ⟨-, rfl⟩ | ⟨-, ⟨v, -, rfl⟩ | ⟨c, he, -⟩ | ⟨r, he, -⟩⟩ := exec_cases h
  · exact ⟨rfl, rfl⟩
  · exact ⟨rfl, rfl⟩
  · obtain rfl | rfl := hi <;> cases he
  · obtain rfl | rfl := hi <;> cases he

/-- Two states that differ only in the interrupt flags. -/
def SameButFlags (s s' : State) : Prop :=
  s'.csr = { s.csr with ie := s'.csr.ie, if_ := s'.csr.if_ } ∧ s'.pending = s.pending

theorem exec_withFlags {i : Instr} (hif : i ≠ .rdIf) (hie : i ≠ .rdIe) {s s' t t' : State} (hs : SameButFlags s s')
    (h : exec i s = .next t) (h' : exec i s' = .next t') : SameButFlags t t' ∧ t'.rdata = t.rdata := by
  obtain ⟨hcsr, hpending⟩ := hs
  have he := effect_withFlags hif hie s.csr s'.csr.ie s'.csr.if_
  rw [show withFlags s.csr s'.csr.ie s'.csr.if_ = s'.csr from hcsr.symm] at he
  have hfault : s'.csr.fault = s.csr.fault := by rw [hcsr]
  cases hf : s.csr.fault with
  | some r =>
    rw [exec_of_halted hf] at h
    rw [exec_of_halted (hfault.trans hf)] at h'
    cases h; cases h'
    exact ⟨⟨hcsr, hpending⟩, rfl⟩
  | none =>
    rw [exec_running hf] at h
    rw [exec_running (hfault.trans hf)] at h'
    cases h; cases h'
    generalize effect i s.csr = e, effect i s'.csr = e' at he
    cases he with
    | returns v => exact ⟨⟨hcsr, hpending⟩, rfl⟩
    | writes c ie pending => exact ⟨⟨rfl, hpending⟩, rfl⟩
    | raises r => exact ⟨⟨congrArg (fun c => c.setFault (some r)) hcsr, hpending⟩, rfl⟩

/-- Settles O15: the two reads change nothing, and every other operation has the same effect but for the flags. -/
theorem interruptFlagsInfluenceNothingElse : Obligations.InterruptFlagsInfluenceNothingElse := by
  intro i s s' t t' hs h h'
  have hsame : SameButFlags s s' := ⟨by rw [hs], by rw [hs]⟩
  by_cases hi : i = .rdIf ∨ i = .rdIe
  · obtain ⟨hcsr, hpending⟩ := exec_read_flags hi h
    obtain ⟨hcsr', hpending'⟩ := exec_read_flags hi h'
    refine ⟨?_, ?_, fun hif hie => absurd hi (not_or.2 ⟨hif, hie⟩)⟩
    · rw [hcsr, hcsr']; exact hsame.1
    · rw [hpending, hpending']; exact hsame.2
  · obtain ⟨hif, hie⟩ := not_or.1 hi
    obtain ⟨⟨hcsr, hpending⟩, hrdata⟩ := exec_withFlags hif hie hsame h h'
    exact ⟨hcsr, hpending, fun _ _ => hrdata⟩

/-! ## The joypad (41 R142 to R145) -/

theorem exec_wrP1 {s : State} (hs : Running s) (v : Byte) :
    exec (.wrP1 v) s = .next (wrote s (s.csr.setBank (selectBank v s.csr.bank))) :=
  exec_of_writes hs rfl

/-- The bank selected depends on bits 5 and 4 alone. -/
theorem selectBank_congr {v w : Byte} (h : v &&& 0x30 = w &&& 0x30) (b : Bank) : selectBank v b = selectBank w b := by
  have hbit : ∀ k, (0x30 : Byte).getLsbD k = true → v.getLsbD k = w.getLsbD k := fun k hk => by
    simpa only [BitVec.getLsbD_and, hk, Bool.and_true] using congrArg (fun x => x.getLsbD k) h
  rw [selectBank, selectBank, buttonSelect, buttonSelect, directionSelect, directionSelect, hbit 5 rfl, hbit 4 rfl]

/-- Settles O17: the effect of `WR.P1`, whose bank is chosen by two bits. -/
theorem joypadWriteSelectsTheBank : Obligations.JoypadWriteSelectsTheBank := by
  refine ⟨fun _ => hasWord_ioWrite (off := 0x00) rfl rfl, fun v s hs => exec_wrP1 hs v, fun v w s hs h => ?_⟩
  rw [exec_wrP1 hs, exec_wrP1 hs, selectBank_congr h]

theorem get_set_self (b : Buttons) (j : Button) (v : Bool) : (b.set j v).get j = v := by cases j <;> rfl

theorem get_set_of_ne (b : Buttons) {j k : Button} (v : Bool) (h : k ≠ j) : (b.set j v).get k = b.get k := by
  cases j <;> cases k <;> simp_all [Buttons.set, Buttons.get]

/-- Settles O18: the word's bits are the button and the flag, and a set flag is the only one that changes. -/
theorem buttonSetChangesOneFlag : Obligations.ButtonSetChangesOneFlag :=
  ⟨decode_input_index, rfl, fun j v s hs =>
    ⟨s.csr.btn.set j v, exec_of_writes hs rfl, get_set_self s.csr.btn j v, fun _ => get_set_of_ne s.csr.btn v⟩⟩

/-- The joypad byte shows the selected bank's flags and nothing else. -/
theorem packJoypad_congr {bank : Bank} {b b' : Buttons}
    (h : ∀ k, k < 4 → b'.get (buttonOf (BitVec.ofNat 3 (4 * bank.index + k))) = b.get (buttonOf (BitVec.ofNat 3 (4 * bank.index + k)))) :
    packJoypad bank b' = packJoypad bank b := by
  rw [← packJoypad_and_low bank b, ← packJoypad_and_low bank b']
  apply BitVec.eq_of_getLsbD_eq
  intro k hk
  rw [BitVec.getLsbD_and, BitVec.getLsbD_and]
  by_cases hlow : k < 4
  · rw [packJoypad_bit _ _ hlow, packJoypad_bit _ _ hlow, h k hlow]
  · have hmask : (0x0F : Byte).getLsbD k = false := by interval_cases k <;> rfl
    rw [hmask, Bool.and_false, Bool.and_false]

/-- Settles O19: both reads return the byte of the same bank. -/
theorem unselectedBankIsInvisible : Obligations.UnselectedBankIsInvisible := by
  intro s s' t t' hs hs' hbank hflags h h'
  rw [exec_rdP1 hs] at h
  rw [exec_rdP1 hs', hbank, packJoypad_congr hflags] at h'
  cases h; cases h'
  rfl

/-! ## LCDC, LY and the palettes (42 R161 to R169, R182) -/

theorem packLcdc_unpackLcdc (v : Byte) : packLcdc (unpackLcdc v) = v := by
  apply BitVec.eq_of_getLsbD_eq
  intro i hi
  interval_cases i <;> simp [-BitVec.getLsbD_eq_getElem, packLcdc, getLsbD_maskIf, unpackLcdc]

/-- Settles O20: the effects of `RD.LCDC` and `WR.LCDC`, and that packing undoes unpacking. -/
theorem lcdControlReadsAndOverwrites : Obligations.LcdControlReadsAndOverwrites :=
  ⟨hasWord_ioRead (off := 0x40) rfl rfl, fun _ => hasWord_ioWrite (off := 0x40) rfl rfl, fun _ hs => exec_of_returns hs rfl,
    fun _ _ hs => exec_of_writes hs rfl,
    fun v _ hs => writeThenReadYields_of_effects hs rfl (congrArg Effect.returns (packLcdc_unpackLcdc v))⟩

/-- Settles O23: the effect of `LY.SET`. -/
theorem lineCounterSetByTheRasterizer : Obligations.LineCounterSetByTheRasterizer :=
  ⟨fun _ => rfl, fun _ _ hs => exec_of_writes hs rfl⟩

/-- Settles O24: the effect of `WR.LY`, a fault at any byte. -/
theorem lineCounterWriteFaults : Obligations.LineCounterWriteFaults :=
  fun _ => ⟨hasWord_ioWrite (off := 0x44) rfl rfl, fun _ hs => exec_of_raises hs rfl⟩

theorem packPal_unpackPal (v : Byte) : packPal (unpackPal v) = v := by
  apply BitVec.eq_of_getLsbD_eq
  intro i hi
  interval_cases i <;> simp [-BitVec.getLsbD_eq_getElem, packPal, unpackPal]

theorem unpackPal_packPal (p : Palette) : unpackPal (packPal p) = p := by
  obtain ⟨e0, e1, e2, e3⟩ := p
  simp only [unpackPal, Palette.mk.injEq]
  refine ⟨?_, ?_, ?_, ?_⟩ <;> apply BitVec.eq_of_getLsbD_eq <;> intro i hi <;> interval_cases i <;>
    simp [-BitVec.getLsbD_eq_getElem, packPal]

/-- Settles O26: the two round trips, and each palette register's effects. -/
theorem paletteRoundTripIsLossless : Obligations.PaletteRoundTripIsLossless :=
  ⟨packPal_unpackPal, unpackPal_packPal, fun v _ hs =>
    have hread := congrArg Effect.returns (packPal_unpackPal v)
    ⟨writeThenReadYields_of_effects hs rfl hread, writeThenReadYields_of_effects hs rfl hread,
      writeThenReadYields_of_effects hs rfl hread⟩⟩

/-! ## Operations that always fault (42 R184 to R187, 44 R223 to R228) -/

section Faulting

variable {i : Instr} {off : Byte}

theorem faultCode_faulted (s : State) (r : FaultRecord) : (faulted s r).faultCode = r.kind.code := rfl

theorem halted_faulted (s : State) (r : FaultRecord) : (faulted s r).halted = true := rfl

/-- The words of an IO read at any offset `off`, from the map of 30_encoding R96. -/
theorem hasWord_ioRead_atOffset (hmap : iord off = i) (henc : encode i = ioReadWord off) : HasWord i (atOffset 0x00000 off) := by
  rw [show (0x00000 : BitVec 18) = busWord .io .read 0 0 from rfl, atOffset_busWord]
  exact hasWord_ioRead hmap henc

/-- Only the four writes of the attribute table change it. -/
theorem effect_writes_oam {c c' : Csr} (h : effect i c = .writes c') (hne : c'.oam ≠ c.oam) :
    ∃ n v, i = .oamWrY n v ∨ i = .oamWrX n v ∨ i = .oamWrTile n v ∨ i = .oamWrAttr n v := by
  cases leavesBlock_of_writes h with
  | oamY n v => exact ⟨n, v, .inl rfl⟩
  | oamX n v => exact ⟨n, v, .inr (.inl rfl)⟩
  | oamTile n v => exact ⟨n, v, .inr (.inr (.inl rfl))⟩
  | oamAttr n v => exact ⟨n, v, .inr (.inr (.inr rfl))⟩
  | _ => exact absurd rfl hne

theorem exec_writes_oam {s t : State} (h : exec i s = .next t) (hne : t.csr.oam ≠ s.csr.oam) :
    ∃ n v, i = .oamWrY n v ∨ i = .oamWrX n v ∨ i = .oamWrTile n v ∨ i = .oamWrAttr n v := by
  by_contra hi
  exact hne (exec_keeps Csr.oam (fun _ _ => rfl) (fun _ he => by_contra fun hc => hi (effect_writes_oam he hc)) h)

end Faulting

/-- Settles O28: the effects of the two offsets' operations, and that no effect but the table's writes touches the table. -/
theorem unimplementedPpuOffsetsFault : Obligations.UnimplementedPpuOffsetsFault := by
  refine ⟨⟨hasWord_ioRead (off := 0x41) rfl rfl, fun _ hs => exec_of_raises hs rfl⟩,
    fun _ => ⟨hasWord_ioWrite (off := 0x41) rfl rfl, fun _ hs => exec_of_raises hs rfl⟩,
    ⟨hasWord_ioRead (off := 0x46) rfl rfl, fun _ hs => exec_of_raises hs rfl⟩,
    fun _ => ⟨hasWord_ioWrite (off := 0x46) rfl rfl, fun _ hs => exec_of_raises hs rfl⟩,
    fun s r hr => ⟨?code, halted_faulted s r⟩, by decide, fun _ _ _ => exec_writes_oam⟩
  case code => rw [faultCode_faulted, hr]; rfl

/-- Settles O35: the map at the sound range and at the boot control, and the effects of the two reads. -/
theorem writeOnlyReadsFault : Obligations.WriteOnlyReadsFault := by
  refine ⟨fun off hlow hhigh => hasWord_ioRead_atOffset (iord_sound (decide_eq_true ⟨hlow, hhigh⟩)) rfl,
    fun _ _ hs => exec_of_raises hs rfl, hasWord_ioRead (off := 0x50) rfl rfl, fun _ hs => exec_of_raises hs rfl, fun s r hr => ?code⟩
  case code => rw [faultCode_faulted, hr]; rfl

/-- Settles O37: the map at the unimplemented offsets, and the effects of the two operations. -/
theorem unimplementedOffsetsFault : Obligations.UnimplementedOffsetsFault := by
  refine ⟨fun off h => hasWord_ioRead_atOffset (iord_unimplemented h) rfl,
    fun off v h => hasWord_ioWrite_atOffset (iowr_unimplemented h v) rfl,
    fun _ _ hs => exec_of_raises hs rfl, fun _ _ _ hs => exec_of_raises hs rfl, fun s r hr => ?code⟩
  case code => rw [faultCode_faulted, hr]; rfl

/-! ## The sprite attribute table (43 R201 to R213) -/

theorem hasWord_oamReadAt {n : BitVec 6} (hn : n.toNat < 40) (f : SpriteField) :
    HasWord (oamReadAt n f) (atOffset 0x20000 (oamOffset n f)) := by
  rw [show (0x20000 : BitVec 18) = busWord .oam .read 0 0 from rfl, atOffset_busWord]
  exact ⟨(decode_oamReadWord _).trans (oamrd_oamOffset hn f), by cases f <;> rfl⟩

theorem exec_oamReadAt {n : BitVec 6} (hn : n.toNat < 40) (f : SpriteField) {s : State} (hs : Running s) :
    exec (oamReadAt n f) s = .next (reading s (readField f s.csr.oam[n.toNat])) :=
  exec_of_returns hs ((effect_oamReadAt n f s.csr).trans (oamRead_of_lt hn f s.csr))

/-- The bits of an attribute byte: the four attributes from bit 7 down, and nothing below bit 4. -/
theorem packAttr_bit (e : SpriteEntry) {i : Nat} (hi : i < 8) : (packAttr e).getLsbD i =
    [false, false, false, false, e.palette.getLsbD 0, e.flipX, e.flipY, e.priority].getD i false := by
  interval_cases i <;> simp [-BitVec.getLsbD_eq_getElem, packAttr, getLsbD_maskIf]

theorem packAttr_and_low (e : SpriteEntry) : packAttr e &&& 0x0F = 0 := by
  apply BitVec.eq_of_getLsbD_eq
  intro i hi
  rw [BitVec.getLsbD_and, packAttr_bit e hi]
  interval_cases i <;> simp [-BitVec.getLsbD_eq_getElem]

theorem packAttr_unpackAttr (v : Byte) (e : SpriteEntry) : packAttr (unpackAttr v e) = v &&& 0xF0 := by
  apply BitVec.eq_of_getLsbD_eq
  intro i hi
  rw [BitVec.getLsbD_and, packAttr_bit _ hi]
  interval_cases i <;> simp [-BitVec.getLsbD_eq_getElem, unpackAttr]

theorem unpackAttr_packAttr (e : SpriteEntry) : unpackAttr (packAttr e) e = e := by
  have hpalette : (packAttr e).extractLsb' 4 1 = e.palette := by
    apply BitVec.eq_of_getLsbD_eq
    intro i hi
    obtain rfl : i = 0 := by omega
    simp [-BitVec.getLsbD_eq_getElem, packAttr_bit]
  simp only [unpackAttr, packAttr_bit e (show 7 < 8 by decide), packAttr_bit e (show 6 < 8 by decide),
    packAttr_bit e (show 5 < 8 by decide), hpalette]
  rfl

/-- Settles O29: the word and the effect of a field's read, and the bits of the attribute byte. -/
theorem spriteReadsYieldTheField : Obligations.SpriteReadsYieldTheField := by
  refine ⟨fun _ hn => ⟨hasWord_oamReadAt hn .y, hasWord_oamReadAt hn .x, hasWord_oamReadAt hn .tile, hasWord_oamReadAt hn .attr,
    fun _ hs => ⟨exec_oamReadAt hn .y hs, exec_oamReadAt hn .x hs, exec_oamReadAt hn .tile hs, exec_oamReadAt hn .attr hs⟩⟩,
    packAttr_and_low, fun e hprio hy hx hpal => ?example0xB0, rfl, rfl, rfl, rfl⟩
  case example0xB0 => rw [packAttr, hprio, hy, hx, hpal]; rfl

theorem extractLsb'_one (v : Byte) (k : Nat) : v.extractLsb' k 1 = BitVec.ofBool (v.getLsbD k) := by
  apply BitVec.eq_of_getLsbD_eq
  intro i hi
  obtain rfl : i = 0 := by omega
  simp [-BitVec.getLsbD_eq_getElem]

/-- Settles O31: the word and the effect of a field's write at the attribute byte, and the packing laws. -/
theorem spriteAttributeWriteSetsFourFields : Obligations.SpriteAttributeWriteSetsFourFields :=
  ⟨fun _ v hn => ⟨hasWord_oamWriteAt hn .attr v, fun _ hs =>
    ⟨_, exec_oamWriteAt hn .attr v hs, rfl, rfl, rfl, rfl, rfl, rfl, extractLsb'_one v 4⟩⟩,
    packAttr_unpackAttr, unpackAttr_packAttr⟩

theorem OamMap.outside_iff {off : Byte} {rd : Instr} {wr : Byte → Instr} (h : OamMap off rd wr) :
    (rd = .oamRdOor off ↔ 0xA0 ≤ off.toNat) ∧ ∀ v, wr v = .oamWrOor off v ↔ 0xA0 ≤ off.toNat := by
  cases h with
  | field n f hn =>
    have hin : ¬ 0xA0 ≤ (oamOffset n f).toNat := of_decide_eq_false (outOfTable_oamOffset hn f)
    cases f <;> simp [oamReadAt, oamWriteAt, hin]
  | outside _ h => simp [of_decide_eq_true h]

/-- Settles O32: the effects of the two operations, and the offsets at which the map has them. -/
theorem offsetsBeyondTheTableFault : Obligations.OffsetsBeyondTheTableFault :=
  ⟨fun _ _ hs => exec_of_raises hs rfl, fun _ _ _ hs => exec_of_raises hs rfl, fun off => (oamMap off).outside_iff.1,
    fun off => (oamMap off).outside_iff.2⟩

/-- What a field reads after a write: the byte, without its low nibble in the attribute field. -/
def storedByte (f : SpriteField) (v : Byte) : Byte := if f = .attr then v &&& 0xF0 else v

theorem readField_writeField_self (f : SpriteField) (v : Byte) (e : SpriteEntry) :
    readField f (writeField f v e) = storedByte f v := by
  cases f with
  | attr => exact packAttr_unpackAttr v e
  | y | x | tile => rfl

theorem readField_writeField_of_ne {f g : SpriteField} (h : g ≠ f) (v : Byte) (e : SpriteEntry) :
    readField g (writeField f v e) = readField g e := by
  cases f <;> cases g <;> simp_all [readField, writeField, unpackAttr, packAttr]

/-- A field of the table after one field of it was written. -/
theorem readField_set {n m : BitVec 6} {f g : SpriteField} {v : Byte} {oam : Vector SpriteEntry 40} (hn : n.toNat < 40)
    (hm : m.toNat < 40) : readField g ((oam.set n.toNat (writeField f v oam[n.toNat]) hn)[m.toNat]) =
      if n = m ∧ f = g then storedByte f v else readField g oam[m.toNat] := by
  by_cases hnm : n = m
  · subst hnm
    rw [Vector.getElem_set_self]
    by_cases hfg : f = g
    · subst hfg
      rw [if_pos ⟨rfl, rfl⟩, readField_writeField_self]
    · rw [if_neg fun h => hfg h.2, readField_writeField_of_ne (Ne.symm hfg)]
  · have hne : n.toNat ≠ m.toNat := fun h => hnm (BitVec.eq_of_toNat_eq h)
    rw [if_neg fun h => hnm h.1, Vector.getElem_set_ne hn hm hne]

/-- An offset of the table is a field of one of its entries. -/
theorem exists_oamOffset {off : Byte} (h : off.toNat < 160) : ∃ n f, n.toNat < 40 ∧ off = oamOffset n f := by
  refine ⟨oamEntry off, oamField off, ?_, (oamOffset_entry_field off).symm⟩
  rw [toNat_oamEntry]
  omega

theorem oamOffset_inj {n m : BitVec 6} {f g : SpriteField} : oamOffset n f = oamOffset m g ↔ n = m ∧ f = g := by
  refine ⟨fun h => ?_, fun ⟨hn, hf⟩ => by rw [hn, hf]⟩
  obtain ⟨hn, hf⟩ := oamOffset_fields n f
  obtain ⟨hm, hg⟩ := oamOffset_fields m g
  exact ⟨hn.symm.trans ((congrArg oamEntry h).trans hm), hf.symm.trans ((congrArg oamField h).trans hg)⟩

/-- Settles O33: two offsets are the same field of the same entry, or disjoint. -/
theorem spriteOffsetsAreIndependent : Obligations.SpriteOffsetsAreIndependent := by
  intro a b v s hs ha hb
  obtain ⟨n, f, hn, rfl⟩ := exists_oamOffset ha
  obtain ⟨m, g, hm, rfl⟩ := exists_oamOffset hb
  rw [oamwr_oamOffset hn, oamrd_oamOffset hm]
  refine ⟨_, _, _, exec_oamWriteAt hn f v hs, exec_oamReadAt hm g hs, exec_oamReadAt hm g hs, ?_⟩
  have hread : readField g (s.csr.oam.set n.toNat (writeField f v s.csr.oam[n.toNat]) hn)[m.toNat] = _ := readField_set hn hm
  simp only [reading, oamOffset_inj, (oamOffset_fields n f).2]
  refine (congrArg some hread).trans ?_
  by_cases h : n = m ∧ f = g
  · rw [if_pos h, if_pos h, storedByte, apply_ite some]
  · rw [if_neg h, if_neg h]

/-! ## Reset (70 R301) -/

/-- Settles O48: each element holds its parameter, a packed one by the round trip of its register. -/
theorem resetLeavesTheStatedValues : Obligations.ResetLeavesTheStatedValues :=
  fun p => ⟨fun k => by cases k <;> exact ⟨rfl, rfl⟩, rfl, rfl, rfl, rfl, packLcdc_unpackLcdc p.ppu.lcdc, rfl, rfl, rfl, rfl,
    packPal_unpackPal p.ppu.bgp, packPal_unpackPal p.ppu.obp0, packPal_unpackPal p.ppu.obp1, rfl, rfl, rfl, rfl, rfl⟩

end Sys2Proof.Proofs

/-! # Proofs of the statements about the whole block and its histories (10_state, 20_memory, 70_reset_and_hazards) -/

namespace Sys2Proof.Proofs

open Sys2Proof Sys2Proof.Machine Sys2Proof.Claims

/-! ## Reads (20_memory R66) -/

theorem busDir_busWord (sp : Space) (d : Dir) (off v : Byte) : busDir (busWord sp d off v) = d := by
  obtain ⟨-, hdir, -, -⟩ := busWord_fields sp d off v
  exact hdir

theorem not_isRead_of_writes {i : Instr} {c c' : Csr} (h : effect i c = .writes c') : ¬ IsRead i := by
  rintro ⟨w, henc, hdir⟩
  cases leavesBlock_of_writes h
  case btn => cases henc
  case ly => cases henc
  all_goals
    rw [← OpWord.bus.inj henc, busDir_busWord] at hdir
    cases hdir

/-- Settles O45: a read's effect returns a byte, the same at once again, or faults. -/
theorem readsHaveNoSideEffect : Obligations.ReadsHaveNoSideEffect := by
  intro i s t hi hs h
  obtain ⟨hhalt, -⟩ | ⟨-, ⟨v, he, rfl⟩ | ⟨c, he, -⟩ | ⟨r, -, rfl⟩⟩ := exec_cases h
  · exact absurd hs hhalt
  · exact ⟨fun _ => ⟨rfl, exec_of_returns hs he⟩, fun _ hr => nomatch hs.symm.trans hr⟩
  · exact absurd hi (not_isRead_of_writes he)
  · exact ⟨nofun, fun _ hr => by rw [← hr]; rfl⟩

/-! ## The same operation twice (20_memory R66) -/

theorem selectBank_selectBank (v : Byte) (b : Bank) : selectBank v (selectBank v b) = selectBank v b := by
  unfold selectBank
  split
  · rfl
  · split <;> rfl

theorem set_set_button (b : Buttons) (j : Button) (v : Bool) : (b.set j v).set j v = b.set j v := by cases j <;> rfl

theorem writeField_writeField (f : SpriteField) (v : Byte) (e : SpriteEntry) : writeField f v (writeField f v e) = writeField f v e := by
  cases f <;> rfl

theorem oamWrite_again {n : BitVec 6} (hn : n.toNat < 40) (f : SpriteField) (v : Byte) (c : Csr) :
    oamWrite n f v (c.setOam (c.oam.set n.toNat (writeField f v c.oam[n.toNat]) hn)) =
      .writes (c.setOam (c.oam.set n.toNat (writeField f v c.oam[n.toNat]) hn)) := by
  rw [oamWrite_of_lt hn]
  simp only [Csr.oam_setOam, Vector.getElem_set_self, writeField_writeField, Vector.set_set]
  rfl

/-- On the block it left, a write leaves that block. -/
theorem effect_writes_again {i : Instr} {c c' : Csr} (h : effect i c = .writes c') : effect i c' = .writes c' := by
  cases leavesBlock_of_writes h with
  | bank v => exact congrArg (fun b => Effect.writes (c.setBank b)) (selectBank_selectBank v c.bank)
  | btn j v => exact congrArg (fun b => Effect.writes (c.setBtn b)) (set_set_button c.btn j v)
  | bootOff v _ hv => exact congrArg Effect.writes (if_pos hv)
  | bootKept v _ hv => exact congrArg Effect.writes (if_neg (by simp [hv]))
  | oamY n v _ hn => exact oamWrite_again hn .y v c
  | oamX n v _ hn => exact oamWrite_again hn .x v c
  | oamTile n v _ hn => exact oamWrite_again hn .tile v c
  | oamAttr n v _ hn => exact oamWrite_again hn .attr v c
  | if_ | ie | lcdc | scy | scx | ly | lyc | bgp | obp0 | obp1 | wy | wx | sound => rfl

/-- Settles O46: what an operation left, it leaves again; after its fault nothing is performed. -/
theorem operationsAreIdempotent : Obligations.OperationsAreIdempotent := by
  intro i s t h
  obtain ⟨hhalt, rfl⟩ | ⟨hs, ⟨v, he, rfl⟩ | ⟨c, he, rfl⟩ | ⟨r, -, rfl⟩⟩ := exec_cases h
  · obtain ⟨r, hr⟩ := Option.ne_none_iff_exists'.1 hhalt
    exact ⟨_, exec_of_halted (s := notPerformed s) hr, rfl⟩
  · exact ⟨_, exec_of_returns (s := reading s v) hs he, rfl⟩
  · exact ⟨_, exec_of_writes (s := wrote s c) (running_wrote hs he) (effect_writes_again he), rfl⟩
  · exact ⟨_, exec_of_halted (s := faulted s r) rfl, rfl⟩

/-! ## One writer for each field (10_state R20) -/

/-- What changed between two blocks is the operation's own field. -/
def OneWriter (i : Instr) (c c' : Csr) : Prop :=
  (c'.ie ≠ c.ie → ∃ v, i = .wrIe v) ∧ (c'.if_ ≠ c.if_ → ∃ v, i = .wrIf v) ∧
  (c'.bank ≠ c.bank → ∃ v, i = .wrP1 v) ∧ (c'.btn ≠ c.btn → ∃ j v, i = .btnSet j v) ∧
  (c'.lcdc ≠ c.lcdc → ∃ v, i = .wrLcdc v) ∧ (c'.scy ≠ c.scy → ∃ v, i = .wrScy v) ∧
  (c'.scx ≠ c.scx → ∃ v, i = .wrScx v) ∧ (c'.ly ≠ c.ly → ∃ v, i = .lySet v) ∧
  (c'.lyc ≠ c.lyc → ∃ v, i = .wrLyc v) ∧ (c'.bgp ≠ c.bgp → ∃ v, i = .wrBgp v) ∧
  (c'.obp0 ≠ c.obp0 → ∃ v, i = .wrObp0 v) ∧ (c'.obp1 ≠ c.obp1 → ∃ v, i = .wrObp1 v) ∧
  (c'.wy ≠ c.wy → ∃ v, i = .wrWy v) ∧ (c'.wx ≠ c.wx → ∃ v, i = .wrWx v) ∧
  (c'.oam ≠ c.oam → ∃ n v, i = .oamWrY n v ∨ i = .oamWrX n v ∨ i = .oamWrTile n v ∨ i = .oamWrAttr n v) ∧
  (c'.boot ≠ c.boot → c'.boot = false ∧ ∃ v, v ≠ 0 ∧ i = .wrBoot v)

theorem oneWriter_of_leavesBlock {i : Instr} {c c' : Csr} (h : LeavesBlock i c c') : OneWriter i c c' := by
  cases h with
  | bootOff v _ hv => simpa [OneWriter] using fun _ => (disablesBoot_iff v).1 hv
  | _ => simp [OneWriter]

theorem oneWriter_setFault (i : Instr) (c : Csr) (x : Option FaultRecord) : OneWriter i c (c.setFault x) := by simp [OneWriter]

theorem oneWriter_refl (i : Instr) (c : Csr) : OneWriter i c c := oneWriter_setFault i c c.fault

theorem exec_oneWriter {i : Instr} {s t : State} (h : exec i s = .next t) : OneWriter i s.csr t.csr ∧ t.pending = s.pending := by
  obtain ⟨-, rfl⟩ | ⟨-, ⟨v, -, rfl⟩ | ⟨c, he, rfl⟩ | ⟨r, -, rfl⟩⟩ := exec_cases h
  · exact ⟨oneWriter_refl i s.csr, rfl⟩
  · exact ⟨oneWriter_refl i s.csr, rfl⟩
  · exact ⟨oneWriter_of_leavesBlock (leavesBlock_of_writes he), rfl⟩
  · exact ⟨oneWriter_setFault i s.csr (some r), rfl⟩

/-- Settles O47: a write changes its own field, everything else at most the latch. -/
theorem eachFieldHasOneWriter : Obligations.EachFieldHasOneWriter := by
  intro i s t h
  obtain ⟨⟨hie, hif, hbank, hbtn, hlcdc, hscy, hscx, hly, hlyc, hbgp, hobp0, hobp1, hwy, hwx, hoam, hboot⟩, hpending⟩ := exec_oneWriter h
  exact ⟨hie, hif, hbank, hbtn, hlcdc, hscy, hscx, hly, hlyc, hbgp, hobp0, hobp1, hwy, hwx, hoam, hboot, hpending⟩

/-! ## Each field's datum -/

/-- Between two blocks each field got its datum of the operation, or kept its value; a field the operation does not touch keeps it
by definition, which is each field's default proof. -/
structure GivesData (i : Instr) (c c' : Csr) : Prop where
  if_ : pack5 c'.if_ = ((ifData i).map (· &&& 0x1F)).getD (pack5 c.if_) := by rfl
  ie : pack5 c'.ie = ((ieData i).map (· &&& 0x1F)).getD (pack5 c.ie) := by rfl
  lcdc : packLcdc c'.lcdc = (lcdcData i).getD (packLcdc c.lcdc) := by rfl
  scy : c'.scy = (scyData i).getD c.scy := by rfl
  scx : c'.scx = (scxData i).getD c.scx := by rfl
  ly : c'.ly = (lyData i).getD c.ly := by rfl
  lyc : c'.lyc = (lycData i).getD c.lyc := by rfl
  bgp : packPal c'.bgp = (bgpData i).getD (packPal c.bgp) := by rfl
  obp0 : packPal c'.obp0 = (obp0Data i).getD (packPal c.obp0) := by rfl
  obp1 : packPal c'.obp1 = (obp1Data i).getD (packPal c.obp1) := by rfl
  wy : c'.wy = (wyData i).getD c.wy := by rfl
  wx : c'.wx = (wxData i).getD c.wx := by rfl
  bank : c'.bank = (bankData i).getD c.bank := by rfl
  btn : ∀ j, c'.btn.get j = (btnData j i).getD (c.btn.get j) := by intros; rfl
  oam : ∀ (n : BitVec 6) (f : SpriteField) (_ : n.toNat < 40),
    readField f c'.oam[n.toNat] = (oamData n f i).getD (readField f c.oam[n.toNat]) := by intros; rfl
  boot : c'.boot = (c.boot && !endsBoot i) := by exact (Bool.and_true _).symm

theorem selectBank_eq_bankData (v : Byte) (b : Bank) : selectBank v b = (bankData (.wrP1 v)).getD b := by
  simp only [selectBank, buttonSelect, directionSelect, bankData]
  by_cases h5 : v.getLsbD 5 = true <;> by_cases h4 : v.getLsbD 4 = true <;> simp [-BitVec.getLsbD_eq_getElem, h5, h4]

theorem get_set_eq_btnData (b : Buttons) (j k : Button) (v : Bool) : (b.set k v).get j = (btnData j (.btnSet k v)).getD (b.get j) := by
  by_cases h : k = j
  · subst h; simp [btnData, get_set_self]
  · simp [btnData, h, get_set_of_ne b v (Ne.symm h)]

theorem oamData_oamWriteAt (n m : BitVec 6) (f g : SpriteField) (v : Byte) :
    oamData m g (oamWriteAt n f v) = if n = m ∧ f = g then some (storedByte f v) else none := by
  by_cases hg : f = g
  · subst hg
    cases f <;> simp [oamData, oamWriteAt, storedByte]
  · cases f <;> simp [oamData, oamWriteAt, hg, Ne.symm hg]

theorem readField_set_eq_oamData {n m : BitVec 6} {f g : SpriteField} {v : Byte} {oam : Vector SpriteEntry 40} (hn : n.toNat < 40)
    (hm : m.toNat < 40) : readField g ((oam.set n.toNat (writeField f v oam[n.toNat]) hn)[m.toNat]) =
      (oamData m g (oamWriteAt n f v)).getD (readField g oam[m.toNat]) := by
  rw [readField_set hn hm, oamData_oamWriteAt]
  split <;> rfl

theorem givesData_oamWriteAt {n : BitVec 6} (f : SpriteField) (v : Byte) (c : Csr) (hn : n.toNat < 40) :
    GivesData (oamWriteAt n f v) c (c.setOam (c.oam.set n.toNat (writeField f v c.oam[n.toNat]) hn)) := by
  have hoam : ∀ (m : BitVec 6) (g : SpriteField) (_ : m.toNat < 40), readField g _ = _ :=
    fun m g hm => readField_set_eq_oamData (f := f) (v := v) (oam := c.oam) hn hm
  cases f <;> exact { oam := hoam }

/-- A write to no entry of the table has no datum. -/
theorem givesData_oamWriteAt_outside {n : BitVec 6} (f : SpriteField) (v : Byte) (c : Csr) (hn : ¬ n.toNat < 40) :
    GivesData (oamWriteAt n f v) c c := by
  have hoam : ∀ (m : BitVec 6) (g : SpriteField) (_ : m.toNat < 40),
      readField g c.oam[m.toNat] = (oamData m g (oamWriteAt n f v)).getD (readField g c.oam[m.toNat]) := by
    intro m g hm
    rw [oamData_oamWriteAt, if_neg fun h : n = m ∧ f = g => hn (h.1 ▸ hm)]
    rfl
  cases f <;> exact { oam := hoam }

theorem endsBoot_wrBoot (v : Byte) : endsBoot (.wrBoot v) = disablesBoot v := rfl

theorem givesData_of_leavesBlock {i : Instr} {c c' : Csr} (h : LeavesBlock i c c') : GivesData i c c' := by
  cases h with
  | bank v => exact { bank := selectBank_eq_bankData v c.bank }
  | btn k v => exact { btn := fun j => get_set_eq_btnData c.btn j k v }
  | if_ v => exact { if_ := pack5_unpack5 v }
  | ie v => exact { ie := pack5_unpack5 v }
  | lcdc v => exact { lcdc := packLcdc_unpackLcdc v }
  | bgp v => exact { bgp := packPal_unpackPal v }
  | obp0 v => exact { obp0 := packPal_unpackPal v }
  | obp1 v => exact { obp1 := packPal_unpackPal v }
  | bootOff v _ hv => exact { boot := by rw [endsBoot_wrBoot, hv]; exact (Bool.and_false _).symm }
  | bootKept v _ hv => exact { boot := by rw [endsBoot_wrBoot, hv]; exact (Bool.and_true _).symm }
  | oamY n v _ hn => exact givesData_oamWriteAt .y v c hn
  | oamX n v _ hn => exact givesData_oamWriteAt .x v c hn
  | oamTile n v _ hn => exact givesData_oamWriteAt .tile v c hn
  | oamAttr n v _ hn => exact givesData_oamWriteAt .attr v c hn
  | scy | scx | ly | lyc | wy | wx | sound => exact {}

theorem not_lt_of_oamWrite_ne_writes {n : BitVec 6} {f : SpriteField} {v : Byte} {c : Csr} (h : ∀ c', oamWrite n f v c ≠ .writes c') :
    ¬ n.toNat < 40 :=
  fun hn => h _ (oamWrite_of_lt hn f v c)

/-- An operation that leaves no block has no datum. -/
theorem givesData_of_ne_writes {i : Instr} {c : Csr} (h : ∀ c', effect i c ≠ .writes c') : GivesData i c c := by
  cases i with
  | oamWrY n v => exact givesData_oamWriteAt_outside .y v c (not_lt_of_oamWrite_ne_writes h)
  | oamWrX n v => exact givesData_oamWriteAt_outside .x v c (not_lt_of_oamWrite_ne_writes h)
  | oamWrTile n v => exact givesData_oamWriteAt_outside .tile v c (not_lt_of_oamWrite_ne_writes h)
  | oamWrAttr n v => exact givesData_oamWriteAt_outside .attr v c (not_lt_of_oamWrite_ne_writes h)
  | wrP1 _ | wrIf _ | wrLcdc _ | wrScy _ | wrScx _ | wrLyc _ | wrBgp _ | wrObp0 _ | wrObp1 _ | wrWy _ | wrWx _ | wrBoot _ | wrIe _
  | wrSound _ _ | btnSet _ _ | lySet _ => exact absurd rfl (h _)
  | rdP1 | rdIf | rdLcdc | rdPpu41 | wrPpu41 _ | rdScy | rdScx | rdLy | wrLy _ | rdLyc | rdPpu46 | wrPpu46 _ | rdBgp | rdObp0 | rdObp1
  | rdWy | rdWx | rdBoot | rdIe | rdSound _ | rdUnimpl _ | wrUnimpl _ _ | oamRdY _ | oamRdX _ | oamRdTile _ | oamRdAttr _ | oamRdOor _
  | oamWrOor _ _ => exact {}

/-- The latch is no field that an operation has a datum for. -/
theorem GivesData.setFault {i : Instr} {c c' : Csr} (h : GivesData i c c') (x : Option FaultRecord) : GivesData i c (c'.setFault x) :=
  { h with }

theorem exec_givesData {i : Instr} {s t : State} (hs : Running s) (h : exec i s = .next t) : GivesData i s.csr t.csr := by
  obtain ⟨hhalt, -⟩ | ⟨-, ⟨v, he, rfl⟩ | ⟨c, he, rfl⟩ | ⟨r, he, rfl⟩⟩ := exec_cases h
  · exact absurd hs hhalt
  · exact givesData_of_ne_writes (by simp [he])
  · exact givesData_of_leavesBlock (leavesBlock_of_writes he)
  · exact (givesData_of_ne_writes (by simp [he])).setFault (some r)

/-- Settles O54: a write gives its own field its datum; a read and a fault have none. -/
theorem performedOperationsGiveEachFieldItsDatum : Obligations.PerformedOperationsGiveEachFieldItsDatum := by
  intro i s t hs h
  have hg := exec_givesData hs h
  exact ⟨hg.if_, hg.ie, hg.lcdc, hg.scy, hg.scx, hg.ly, hg.lyc, hg.bgp, hg.obp0, hg.obp1, hg.wy, hg.wx, hg.bank, hg.btn, hg.oam, hg.boot⟩

/-! ## Runs over a list of presented words -/

theorem exec_pending {i : Instr} {s t : State} (h : exec i s = .next t) : t.pending = s.pending :=
  perform_pending (exec_eq_perform i s ▸ h)

theorem runSteps_succ {s u : State} (h : step s = .next u) (n : Nat) : runSteps (n + 1) s = runSteps n u := by
  simp only [runSteps, h]

/-- A halted machine takes words and changes nothing of the block. -/
theorem step_of_halted {s : State} {r : FaultRecord} (hs : s.csr.fault = some r) : ∃ t, step s = .next t ∧ t.csr = s.csr := by
  cases hp : s.pending with
  | nil => exact ⟨s, step_of_pending_nil hp, rfl⟩
  | cons w ws => exact ⟨_, (step_of_pending_cons hp).trans (exec_of_halted (s := s.setPending ws) hs), rfl⟩

theorem runSteps_of_halted {r : FaultRecord} (n : Nat) : ∀ s : State, s.csr.fault = some r → ∃ t, runSteps n s = .next t ∧ t.csr = s.csr := by
  induction n with
  | zero => exact fun s _ => ⟨s, rfl, rfl⟩
  | succ n ih =>
    intro s hs
    obtain ⟨u, hstep, hu⟩ := step_of_halted hs
    obtain ⟨t, hrun, ht⟩ := ih u (by rw [hu, hs])
    exact ⟨t, by rw [runSteps_succ hstep, hrun], ht.trans hu⟩

/-- The first presented word of a running block: one to be avoided faults, and after any other the run goes on from a running block
with the words left. -/
theorem exec_first_word {s : State} {w : OpWord} {ws : List OpWord} (hs : Running s) (hp : s.pending = w :: ws) :
    ∃ u, exec (decode w) (s.setPending ws) = .next u ∧ u.pending = ws ∧ runSteps (w :: ws).length s = runSteps ws.length u ∧
      (w.avoided = true ∧ (∃ r, u = faulted (s.setPending ws) r) ∨ w.avoided = false ∧ Running u) := by
  have hs' : Running (s.setPending ws) := hs
  obtain ⟨u, hu⟩ := exec_next (decode w) (s.setPending ws)
  refine ⟨u, hu, exec_pending hu, runSteps_succ ((step_of_pending_cons hp).trans hu) ws.length, ?_⟩
  have hiff := exactlyTheAvoidedWordsFault w _ u hs' hu
  cases hf : u.csr.fault with
  | some r => exact .inl ⟨hiff.1 (by simp [hf]), r, faultsChangeOnlyTheLatch _ _ u r hs' hu hf⟩
  | none => exact .inr ⟨by simpa [hf] using hiff, hf⟩

/-- What holds of the block and its history before a run, is kept by every performed operation and does not look at the latch,
holds after the run of the performed operations. -/
theorem runSteps_invariant {P : List Instr → Csr → Prop} (hlatch : ∀ is c x, P is c → P is (c.setFault x))
    (hstep : ∀ is i c c', GivesData i c c' → P is c → P (is ++ [i]) c') (ws : List OpWord) :
    ∀ (s : State) (is : List Instr), Running s → s.pending = ws → P is s.csr →
      ∃ t, runSteps ws.length s = .next t ∧ P (is ++ performedBefore ws) t.csr := by
  induction ws with
  | nil => exact fun s is _ _ hP => ⟨s, rfl, by simpa [performedBefore] using hP⟩
  | cons w ws ih =>
    intro s is hs hp hP
    obtain ⟨u, hu, hpending, hrun, ⟨hw, r, rfl⟩ | ⟨hw, hrunning⟩⟩ := exec_first_word hs hp
    · obtain ⟨t, ht, hcsr⟩ := runSteps_of_halted ws.length (faulted (s.setPending ws) r) rfl
      refine ⟨t, hrun.trans ht, ?_⟩
      rw [hcsr, performedBefore, List.takeWhile_cons_of_neg (by simp [hw]), List.map_nil, List.append_nil]
      exact hlatch is s.csr (some r) hP
    · obtain ⟨t, ht, hPt⟩ := ih u (is ++ [decode w]) hrunning hpending
        (hstep is (decode w) s.csr u.csr (exec_givesData (s := s.setPending ws) hs hu) hP)
      refine ⟨t, hrun.trans ht, ?_⟩
      rw [performedBefore, List.takeWhile_cons_of_pos (by simp [hw]), List.map_cons, List.append_cons]
      exact hPt

/-- A property of the block and its history that reset has and every performed operation keeps holds after every run from reset. -/
theorem runAll_invariant {P : List Instr → Csr → Prop} (hlatch : ∀ is c x, P is c → P is (c.setFault x))
    (hstep : ∀ is i c c', GivesData i c c' → P is c → P (is ++ [i]) c') {p : ResetParams} (hreset : P [] (Csr.resetWith p))
    (ws : List OpWord) : ∃ t, runAll (State.resetWith p) ws = .next t ∧ P (performedBefore ws) t.csr :=
  runSteps_invariant hlatch hstep ws (presenting (State.resetWith p) ws) [] rfl rfl hreset

/-! ## The most recent datum -/

theorem mostRecent_append {α : Type} (sel : Instr → Option α) (d : α) (is : List Instr) (i : Instr) :
    mostRecent sel d (is ++ [i]) = (sel i).getD (mostRecent sel d is) := by
  cases h : sel i <;> simp [mostRecent, List.filterMap_append, h]

/-- A field that gets its datum or keeps its value holds the most recent datum. -/
theorem eq_mostRecent_append {α : Type} {sel : Instr → Option α} {d x x' : α} {is : List Instr} {i : Instr}
    (hx : x = mostRecent sel d is) (hx' : x' = (sel i).getD x) : x' = mostRecent sel d (is ++ [i]) := by
  rw [hx', hx, mostRecent_append]

/-- The same where the field holds a function of the datum. -/
theorem eq_map_mostRecent_append {α : Type} {sel : Instr → Option α} {g : α → α} {d x x' : α} {is : List Instr} {i : Instr}
    (hx : x = g (mostRecent sel d is)) (hx' : x' = ((sel i).map g).getD x) : x' = g (mostRecent sel d (is ++ [i])) := by
  rw [hx', hx, mostRecent_append, Option.getD_map]

/-! ## Histories -/

/-- IF, IE and the PPU registers hold the most recent write of a history, or their reset value. -/
structure RegistersFollow (p : ResetParams) (is : List Instr) (c : Csr) : Prop where
  if_ : pack5 c.if_ = mostRecent ifData 0 is &&& 0x1F
  ie : pack5 c.ie = mostRecent ieData 0 is &&& 0x1F
  lcdc : packLcdc c.lcdc = mostRecent lcdcData p.ppu.lcdc is
  scy : c.scy = mostRecent scyData p.ppu.scy is
  scx : c.scx = mostRecent scxData p.ppu.scx is
  ly : c.ly = mostRecent lyData p.ppu.ly is
  lyc : c.lyc = mostRecent lycData p.ppu.lyc is
  bgp : packPal c.bgp = mostRecent bgpData p.ppu.bgp is
  obp0 : packPal c.obp0 = mostRecent obp0Data p.ppu.obp0 is
  obp1 : packPal c.obp1 = mostRecent obp1Data p.ppu.obp1 is
  wy : c.wy = mostRecent wyData p.ppu.wy is
  wx : c.wx = mostRecent wxData p.ppu.wx is

theorem registersFollow_reset (p : ResetParams) : RegistersFollow p [] (Csr.resetWith p) where
  if_ := pack5_clear
  ie := pack5_clear
  lcdc := packLcdc_unpackLcdc p.ppu.lcdc
  scy := rfl
  scx := rfl
  ly := rfl
  lyc := rfl
  bgp := packPal_unpackPal p.ppu.bgp
  obp0 := packPal_unpackPal p.ppu.obp0
  obp1 := packPal_unpackPal p.ppu.obp1
  wy := rfl
  wx := rfl

theorem RegistersFollow.append {p : ResetParams} {is : List Instr} {i : Instr} {c c' : Csr} (h : RegistersFollow p is c)
    (hg : GivesData i c c') : RegistersFollow p (is ++ [i]) c' where
  if_ := eq_map_mostRecent_append (g := (· &&& 0x1F)) h.if_ hg.if_
  ie := eq_map_mostRecent_append (g := (· &&& 0x1F)) h.ie hg.ie
  lcdc := eq_mostRecent_append h.lcdc hg.lcdc
  scy := eq_mostRecent_append h.scy hg.scy
  scx := eq_mostRecent_append h.scx hg.scx
  ly := eq_mostRecent_append h.ly hg.ly
  lyc := eq_mostRecent_append h.lyc hg.lyc
  bgp := eq_mostRecent_append h.bgp hg.bgp
  obp0 := eq_mostRecent_append h.obp0 hg.obp0
  obp1 := eq_mostRecent_append h.obp1 hg.obp1
  wy := eq_mostRecent_append h.wy hg.wy
  wx := eq_mostRecent_append h.wx hg.wx

/-- Settles O49: the registers follow the history at reset and over every operation. -/
theorem registersHoldTheMostRecentWrite : Obligations.RegistersHoldTheMostRecentWrite := by
  intro p ws
  obtain ⟨t, ht, h⟩ := runAll_invariant (P := RegistersFollow p) (fun _ _ _ h => { h with }) (fun _ _ _ _ hg h => h.append hg)
    (registersFollow_reset p) ws
  exact ⟨t, ht, h.if_, h.ie, h.lcdc, h.scy, h.scx, h.ly, h.lyc, h.bgp, h.obp0, h.obp1, h.wy, h.wx⟩

/-- Settles O50: the bank and each button flag follow the history at reset and over every operation. -/
theorem joypadHoldsTheMostRecentSelectionAndInput : Obligations.JoypadHoldsTheMostRecentSelectionAndInput :=
  fun p => runAll_invariant
    (P := fun is c => c.bank = mostRecent bankData p.p1Bank is ∧ ∀ j, c.btn.get j = mostRecent (btnData j) (p.buttons.get j) is)
    (fun _ _ _ h => h)
    (fun _ _ _ _ hg ⟨hbank, hbtn⟩ => ⟨eq_mostRecent_append hbank hg.bank, fun j => eq_mostRecent_append (hbtn j) (hg.btn j)⟩)
    ⟨rfl, fun _ => rfl⟩

/-- Settles O51: each field of each entry follows the history at reset and over every operation. -/
theorem spriteTableHoldsTheMostRecentWrite : Obligations.SpriteTableHoldsTheMostRecentWrite :=
  fun p => runAll_invariant
    (P := fun is c => ∀ (n : BitVec 6) (f : SpriteField) (h : n.toNat < 40),
      readField f c.oam[n.toNat] = mostRecent (oamData n f) (readField f p.oam[n.toNat]) is)
    (fun _ _ _ h => h)
    (fun _ _ _ _ hg h n f hn => eq_mostRecent_append (h n f hn) (hg.oam n f hn))
    (fun _ _ _ => rfl)

theorem servedAtZero_eq (s : State) : s.servedAtZero = if s.bootSequence then .bootCode else .cartridgeCode := rfl

/-- Settles O52: the boot flag follows the history at reset and over every operation, and the output is the flag. -/
theorem bootOutputFollowsTheHistory : Obligations.BootOutputFollowsTheHistory := by
  refine ⟨fun p => runAll_invariant (P := fun is c => c.boot = !is.any endsBoot) (fun _ _ _ h => h)
    (fun is i c c' hg h => ?step) rfl, fun _ => rfl, fun _ _ => rfl, fun s => ⟨fun h => ?boot, fun h => ?cartridge⟩⟩
  case step => rw [hg.boot, h, List.any_append, Bool.not_or, List.any_cons, List.any_nil, Bool.or_false]
  case boot => rw [servedAtZero_eq, h]; rfl
  case cartridge => rw [servedAtZero_eq, h]; rfl

/-! ## Where a run halts (70 R306) -/

/-- Which record an operation raises does not depend on the block. -/
theorem raisedBy_effect_congr (i : Instr) (c c' : Csr) : raisedBy (effect i c) = raisedBy (effect i c') := by
  have hread : ∀ n f, raisedBy (oamRead n f c) = raisedBy (oamRead n f c') := fun n f => by
    unfold oamRead; split <;> rfl
  have hwrite : ∀ n f v, raisedBy (oamWrite n f v c) = raisedBy (oamWrite n f v c') := fun n f v => by
    unfold oamWrite; split <;> rfl
  cases i with
  | oamRdY n | oamRdX n | oamRdTile n | oamRdAttr n => exact hread n _
  | oamWrY n v | oamWrX n v | oamWrTile n v | oamWrAttr n v => exact hwrite n _ v
  | _ => rfl

/-- After a run the latch holds the record of the first word to be avoided. -/
theorem runSteps_fault (c : Csr) (ws : List OpWord) : ∀ s : State, Running s → s.pending = ws →
    ∃ t, runSteps ws.length s = .next t ∧ t.csr.fault = (ws.find? OpWord.avoided).bind fun w => raisedBy (effect (decode w) c) := by
  induction ws with
  | nil => exact fun s hs _ => ⟨s, rfl, hs⟩
  | cons w ws ih =>
    intro s hs hp
    obtain ⟨u, hu, hpending, hrun, ⟨hw, r, rfl⟩ | ⟨hw, hrunning⟩⟩ := exec_first_word hs hp
    · obtain ⟨t, ht, hcsr⟩ := runSteps_of_halted ws.length (faulted (s.setPending ws) r) rfl
      refine ⟨t, hrun.trans ht, ?_⟩
      rw [hcsr, List.find?_cons_of_pos hw, Option.bind_some, raisedBy_effect_congr (decode w) c s.csr]
      exact (exec_running_edges (s := s.setPending ws) hs hu).1
    · obtain ⟨t, ht, hfault⟩ := ih u hrunning hpending
      exact ⟨t, hrun.trans ht, by rw [hfault, List.find?_cons_of_neg (by simp [hw])]⟩

/-- Settles O53: the latch after a run is what the first avoided word raises, and every avoided word raises a record. -/
theorem runsHaltExactlyAtTheFirstAvoidedWord : Obligations.RunsHaltExactlyAtTheFirstAvoidedWord := by
  intro p ws
  obtain ⟨t, ht, hfault⟩ := runSteps_fault (Csr.resetWith p) ws (presenting (State.resetWith p) ws) rfl rfl
  refine ⟨t, ht, ?_, fun w hw => ?_⟩
  · rw [hfault]
    cases hfind : ws.find? OpWord.avoided with
    | none => simpa using hfind
    | some w =>
      have hw := List.find?_some hfind
      have hraised := (effect_decode w (Csr.resetWith p)).avoided_eq.symm.trans hw
      refine iff_of_false (fun hnone => ?_) fun hall => ?_
      · rw [show raisedBy (effect (decode w) (Csr.resetWith p)) = none from hnone] at hraised
        cases hraised
      · exact nomatch hw.symm.trans (hall w (List.mem_of_find?_eq_some hfind))
  · obtain ⟨u, hu⟩ := exec_next (decode w) (State.resetWith p)
    refine ⟨u, hu, ?_⟩
    rw [hfault, hw, (exec_running_edges (running_resetWith p) hu).1]
    rfl

end Sys2Proof.Proofs

/-! # Proofs of the debugger host's remaining statements (60_exceptions R270 to R282) -/

namespace Sys2Proof.Proofs

open Sys2Proof Sys2Proof.DebugHost Sys2Proof.Claims

/-! ## The mode (R271) -/

section ModeKept

variable {σ : Type} (h : Setup σ) (k : Controller) (s : σ)

theorem execute_mode : (execute h k s).1.mode = k.mode := by
  obtain ⟨s', text, -, hex⟩ | ⟨s', -, hex⟩ := execute_cases h k s
  · rw [hex]
  · rw [hex]
    rfl

theorem continueOnce_mode (check : Bool) : (continueOnce h k s check).1.mode = k.mode := by
  unfold continueOnce
  split
  case isTrue => rfl
  case isFalse => exact execute_mode h _ s

theorem freeRun_mode : (freeRun h k s).1.mode = k.mode := by
  unfold freeRun
  cases h.core.run h.runUntil s <;> rfl

theorem runCommand_mode (c : Command) : (runCommand h k s c).1.mode = k.mode := by
  cases c with
  | step => exact execute_mode h k s
  | continue_ | setBreakpoint _ | printRegister _ | printCpuRegs | disassemble _ | quit | lastCommand => rfl

theorem runLine_mode (line : List Char) : (runLine h k s line).1.mode = k.mode := by
  unfold runLine
  split
  case h_1 => rfl
  case h_2 => rfl
  case h_3 c _ _ => exact runCommand_mode h k s c

theorem takeInput_mode (i : Input) : (takeInput h k s i).1.mode = k.mode := by
  cases i with
  | line text => exact runLine_mode h k s text
  | failure => rfl

theorem act_mode (x : Session σ) : (act h x).1.controller.mode = x.controller.mode := by
  unfold act
  split
  case h_1 => rfl
  case h_2 => exact freeRun_mode h x.controller x.core
  case h_3 => exact freeRun_mode h x.controller x.core
  case h_4 check _ _ => exact continueOnce_mode h x.controller x.core check
  case h_5 =>
    split
    case h_1 => rfl
    case h_2 i _ _ => exact takeInput_mode h x.controller x.core i

theorem acts_mode (n : Nat) : ∀ x : Session σ, (acts h n x).1.controller.mode = x.controller.mode := by
  induction n with
  | zero => exact fun _ => rfl
  | succ n ih => exact fun x => by rw [acts_succ_fst, ih, act_mode]

end ModeKept

theorem act_running {σ : Type} (h : Setup σ) {x : Session σ} (hm : x.controller.mode = .running) (ha : x.controller.activity = .ready) :
    act h x = Session.after (freeRun h x.controller x.core) x.input := by
  simp only [act, hm, ha]

/-- Settles O55: no action changes the mode; in Running an action is the free run, in Debugging it takes an item of input. -/
theorem modeIsChosenAtStartup : Obligations.ModeIsChosenAtStartup := by
  refine ⟨fun _ => rfl, fun σ h x => ⟨fun n => acts_mode h n x, fun hm ha => ⟨fun s' hrun => ?_, fun s' hrun => ?_, fun hrun => ?_⟩,
    fun hm ha line rest hi => ⟨_, _, _, rfl, act_input h hm ha hi⟩⟩⟩
  all_goals
    rw [act_running h hm ha, freeRun, hrun]
    rfl

/-! ## *Continue* (R273) -/

section ContinueTurn

variable {σ : Type} (h : Setup σ)

/-- At a breakpoint that is checked the turn only goes back to the prompt. -/
theorem continueOnce_at_breakpoint {k : Controller} {s : σ} (hb : h.core.pc s ∈ k.breakpoints) :
    continueOnce h k s true = ({ k with activity := .ready }, s, []) :=
  if_pos ⟨rfl, hb⟩

/-- Any other turn executes one instruction. -/
theorem continueOnce_elsewhere {k : Controller} {s : σ} {check : Bool} (hb : ¬(check = true ∧ h.core.pc s ∈ k.breakpoints)) :
    continueOnce h k s check = execute h { k with activity := .continuing true } s :=
  if_neg hb

theorem execute_of_executed {k : Controller} {s s' : σ} {text : List Char} (hstep : h.core.step s = .executed s' text) :
    execute h k s = (k, s', [.executed (h.core.pc s) text]) := by
  simp only [execute, hstep]

theorem execute_of_halted {k : Controller} {s s' : σ} (hstep : h.core.step s = .halted s') :
    execute h k s = (k.finish, s', []) := by
  simp only [execute, hstep]

/-- A session in a *Continue* that has no breakpoint at its address and whose instruction executes: the turn goes on. -/
theorem act_continues {x : Session σ} {check : Bool} {s' : σ} {text : List Char} (hm : x.controller.mode = .debugging)
    (ha : x.controller.activity = .continuing check) (hb : ¬(check = true ∧ h.core.pc x.core ∈ x.controller.breakpoints))
    (hstep : h.core.step x.core = .executed s' text) :
    act h x = ({ x with controller := { x.controller with activity := .continuing true }, core := s' },
      [.executed (h.core.pc x.core) text]) := by
  rw [act_continuing h hm ha, continueOnce_elsewhere h hb, execute_of_executed h hstep]
  rfl

/-- While every turn finds no breakpoint and its instruction executes, the *Continue* is under way and no input is read. -/
theorem acts_continues (n : Nat) : ∀ (x : Session σ) (check : Bool), x.controller.mode = .debugging →
    x.controller.activity = .continuing check →
    (∀ m, m < n → h.core.pc (acts h m x).1.core ∉ x.controller.breakpoints ∧
      ∃ s' text, h.core.step (acts h m x).1.core = .executed s' text) →
    (∃ c, (acts h n x).1.controller.activity = .continuing c) ∧ (acts h n x).1.input = x.input := by
  induction n with
  | zero => exact fun x check _ ha _ => ⟨⟨check, ha⟩, rfl⟩
  | succ n ih =>
    intro x check hm ha hturns
    obtain ⟨hpc, s', text, hstep⟩ := hturns 0 (Nat.succ_pos n)
    have hact := act_continues h hm ha (fun hb => hpc hb.2) hstep
    rw [acts_succ_fst, hact]
    refine ih _ true hm rfl fun m hlt => ?_
    have hturn := hturns (m + 1) (Nat.succ_lt_succ hlt)
    rw [acts_succ_fst, hact] at hturn
    exact hturn

end ContinueTurn

theorem runLine_continue {σ : Type} (h : Setup σ) (k : Controller) (s : σ) : runLine h k s "c".toList =
    ({ k with activity := .continuing h.stopsAtStart, lastCommand := some .continue_ }, s, []) := by
  have hparse : parse "c".toList = .ok .continue_ := by decide
  simp only [runLine, hparse]
  rfl

/-- Settles O56: what a turn does by whether it is at a breakpoint and what its instruction comes to, and the turns in a row. -/
theorem continueEndsAtABreakpointOrAFault : Obligations.ContinueEndsAtABreakpointOrAFault := by
  refine fun σ h x hm => ⟨fun rest ha hi => ?enter, fun check ha => ⟨?input, fun hcheck hb => ?breakpoint,
    fun s' text hb hstep => act_continues h hm ha hb hstep, fun s' hb hstep => ?fault, fun n => acts_continues h n x check hm ha⟩⟩
  case enter =>
    rw [act_input h hm ha hi, takeInput, runLine_continue]
    rfl
  case input => rw [act_continuing h hm ha, after_input]
  case breakpoint =>
    rw [act_continuing h hm ha, hcheck, continueOnce_at_breakpoint h hb]
    rfl
  case fault =>
    rw [act_continuing h hm ha, continueOnce_elsewhere h hb, execute_of_halted h hstep]
    rfl

/-! ## Printing a register (R276) -/

/-- Hexadecimal digits read back one by one, after what was read before. -/
theorem digits_hexChar {n : Nat} (hn : n < 16) (acc : Nat) (cs : List Char) :
    digits? hexDigit? 16 acc (hexChar n :: cs) = digits? hexDigit? 16 (acc * 16 + n) cs := by
  rw [digits?, hexDigit_hexChar n hn, Option.bind_some]

theorem hexNumber_cons (c : Char) (cs : List Char) : hexNumber? (c :: cs) = digits? hexDigit? 16 0 (c :: cs) := rfl

theorem hexNumber_hex_byte (v : BitVec 8) : hexNumber? (RegValue.byte v).hex = some v.toNat := by
  have hv := v.isLt
  rw [RegValue.hex, hexNumber_cons, digits_hexChar (by omega), digits_hexChar (by omega), digits?]
  congr 1
  omega

theorem hexNumber_hex_word (v : BitVec 16) : hexNumber? (RegValue.word v).hex = some v.toNat := by
  have hv := v.isLt
  rw [RegValue.hex, hexNumber_cons, digits_hexChar (by omega), digits_hexChar (by omega), digits_hexChar (by omega),
    digits_hexChar (by omega), digits?]
  congr 1
  omega

/-- Settles O57: the digits printed read back to the value, and a name is looked up in lower case. -/
theorem registersArePrintedInHexadecimalAtTheirWidth : Obligations.RegistersArePrintedInHexadecimalAtTheirWidth := by
  refine ⟨fun σ h k s => ⟨fun r => ⟨_, rfl, rfl, hexNumber_hex_byte _⟩, fun r => ⟨_, rfl, rfl, hexNumber_hex_word _⟩⟩,
    fun m n hmn => ?lookup, by decide, by decide, by decide, by decide, by decide⟩
  case lookup => rw [reg?, hmn, reg?]

/-! ## Errors (R280 to R282) -/

section Errors

variable {σ : Type} (h : Setup σ) (k : Controller) (s : σ)

theorem runLine_of_error {line : List Char} {d : Diagnostic} (hd : parse line = .error d) :
    runLine h k s line = (k, s, [.diagnostic d]) := by
  simp only [runLine, hd]

theorem runLine_nil : runLine h k s [] = (k, s, []) := by
  have hparse : parse [] = .ok .lastCommand := by decide
  simp only [runLine, hparse]

theorem runLine_step_of_halted {s' : σ} (hstep : h.core.step s = .halted s') :
    runLine h k s "s".toList = ({ k with activity := .ended, lastCommand := some .step }, s', []) := by
  have hparse : parse "s".toList = .ok .step := by decide
  simp only [runLine, hparse, runCommand, execute_of_halted h hstep]
  rfl

end Errors

/-- Settles O59: what each line does at the prompt, where an action is the line's. -/
theorem hostErrorsAreRecovered : Obligations.HostErrorsAreRecovered := by
  refine fun σ h k s rest => ⟨fun line d hd => runLine_of_error h k s hd, runLine_nil h k s, fun hm ha => ⟨fun line d hd => ?_, ?_, ?_,
    fun s' hstep => ?_⟩⟩
  · rw [act_input h hm ha rfl, takeInput, runLine_of_error h k s hd]; rfl
  · rw [act_input h hm ha rfl, takeInput, runLine_nil]; rfl
  · rw [act_input h hm ha rfl]; rfl
  · rw [act_input h hm ha rfl, takeInput, runLine_step_of_halted h k s hstep]; rfl

end Sys2Proof.Proofs
